-- ==== Sys2Proof/Word.lean ====
section
/-! DEFINITION. The word types of the block: the byte (R10, R60) and the 64-bit register of the REG space (R66). -/

namespace Sys2Proof

/-- A byte of any buffer (R60). -/
abbrev Byte := BitVec 8

/-- A register of the REG space: 64 bits, read and written whole (R66). -/
abbrev Word := BitVec 64

/-- A byte sequence (R10, type `bytes`). -/
abbrev Bytes := List Byte

end Sys2Proof
end

