-- ==== Sys2Proof/Config.lean ====
section
/-! DEFINITION. What an implementation fixes (00_scope.md R8, R9), and the free values: constants without a body, which
nothing in Lean can evaluate. -/

namespace Sys2Proof

/-- How the decompression ratio is compared with its limit (R135, decision D8). -/
inductive RatioCmp where
  | exact | floor
deriving DecidableEq, Repr

/-- What the interface does with an aligned REG offset above 0xA0, where R70 and 93_implementation_defined.md A.2 say two
things (log 9). -/
inductive ReservedOffsets where
  /-- The access is outside the interface (93_implementation_defined.md A.2). -/
  | refuse
  /-- It reads 0 and ignores writes (R70). -/
  | readZero
deriving DecidableEq, Repr

/-- The parameters of R9 that are data, and for each parameter that is a function whether it is present. A value of this
type stands in `State.cfg`, so that a statement about every state is a statement about every configuration (log 7). -/
structure Config where
  /-- `NFILT_MAX` (R9, decision D4): the number of slots of FLT. -/
  nfiltMax : Nat
  /-- `BUF_CAP`: `none` is ∞ (R423). -/
  bufCap : Option Nat
  /-- `LEN_BITS` (R24, R25, R28): the width of the length registers, at most the register's 64 bits. -/
  lenBits : Nat
  /-- `RATIO_CMP` (R135). -/
  ratioCmp : RatioCmp
  /-- `FLATE_ACCEPT_CLEAN_EMPTY` (R163). -/
  acceptCleanEmpty : Bool
  /-- Is `ALT_INFLATE_4` present (R167)? -/
  altInflate4Present : Bool
  /-- Is `ALT_INFLATE_5` present (R168)? -/
  altInflate5Present : Bool
  /-- Is `LZW_PRIMARY` present (R253)? -/
  lzwPrimaryPresent : Bool
  /-- `LZW_MAX_BITS`, in 12..16 (R260). -/
  lzwMaxBits : Nat
  /-- `WS`, the whitespace set (R287). -/
  ws : Bytes
  /-- Is `FAX_ENGINE` another function than the reference engine of 47_fax_engine.md (R353)? -/
  faxEngineReplaced : Bool
  /-- `G3_2D` (R384). -/
  g3TwoD : Bool
  /-- The model's own parameter, not one of R9: the two readings of a reserved offset (log 9). -/
  reservedOffsets : ReservedOffsets
deriving DecidableEq, Repr

/-- The default of every parameter, as the table of R9 gives it. -/
def Config.default : Config where
  nfiltMax := 15
  bufCap := none
  lenBits := 64
  ratioCmp := .exact
  acceptCleanEmpty := false
  altInflate4Present := false
  altInflate5Present := false
  lzwPrimaryPresent := false
  lzwMaxBits := 12
  ws := [0x09, 0x0A, 0x0C, 0x0D, 0x20]
  faxEngineReplaced := false
  g3TwoD := false
  reservedOffsets := .refuse

/-- The width of `NFILT` and of `STATUS.ESTAGE`: 4 bits (R23, R26), and as many more as NFILT_MAX needs (decision D4:
"the field widths grow with it"). -/
def Config.nfiltBits (c : Config) : Nat := max 4 (Nat.log2 c.nfiltMax + 1)

/-- The legal settings: `LZW_MAX_BITS` is in 12..16 (R9); `LEN_BITS` fits a register, and `STATUS` with an `ESTAGE` of
this width fits its 64 bits (log 8). -/
def Config.legal (c : Config) : Bool :=
  decide (12 ≤ c.lzwMaxBits) && decide (c.lzwMaxBits ≤ 16) && decide (c.lenBits ≤ 64) && decide (c.nfiltBits ≤ 37)

/-- `DEFAULT_MAX_RATIO` (R8). -/
def Config.defaultMaxRatio : Nat := 100

/-- `DEFAULT_MAX_SIZE` (R8). -/
def Config.defaultMaxSize : Nat := 104857600

/-- The geometry and flags an implementation of `FAX_ENGINE` is given (R353): the columns, the rows if present, whether
the group is 4, `K` as 32 bits, END_OF_LINE, ENCODED_BYTE_ALIGN, END_OF_BLOCK. -/
structure FaxParams where
  columns : Nat
  rows : Option Nat
  group4 : Bool
  k : BitVec 32
  endOfLine : Bool
  byteAlign : Bool
  endOfBlock : Bool
deriving DecidableEq, Repr

/-- `ALT_INFLATE_4` (R167): a function of the stage's input alone. -/
opaque Config.altInflate4 : Bytes → Option Bytes

/-- `ALT_INFLATE_5` (R168). -/
opaque Config.altInflate5 : Bytes → Option Bytes

/-- `LZW_PRIMARY` (R253): `none` is its Fail. -/
opaque Config.lzwPrimary : Bytes → Option Bytes

/-- `FAX_ENGINE` when it is not the reference engine (R353). Its rows are used where they keep the contract of R353
(`Machine.faxEngineRows`, log 24). -/
opaque Config.faxEngine : Bytes → FaxParams → List (List Nat)

/-- FREE VALUE: the byte of `IN` at an address the host never wrote, as draw number `n` finds it (R49, R471). -/
opaque Config.freeInByte : (n : Nat) → (address : Nat) → Byte

/-- FREE VALUE: any other byte the host reads where the interface gives no value, as draw number `n` finds it (R49,
R471). -/
opaque Config.freeByte : (n : Nat) → (address : Nat) → Byte

/-- FREE VALUE: what a register read returns where R49 says unspecified, at draw number `n`. -/
opaque Config.freeWord : (n : Nat) → Word

end Sys2Proof
end

