-- ==== Sys2Proof/Syntax.lean ====
section
/-! DEFINITION. The syntax: one constructor for each row of spec/opcode_table.json, in the table's order, grouped by
format. An operand is what 30_encoding.md section 9 (R107) assembles for the row. -/

namespace Sys2Proof

/-- The instructions of all four levels of 30_encoding.md (R2). -/
inductive Instr where
  -- Level 0, one write of CTRL (R90).
  | decodeStream | decodeStreamOpt | ccittDecode | ccittGray | ack
  -- Level 1, one 32-byte slot of FLT (R91, R92).
  | flateDecode | asciiHexDecode | ascii85Decode | lzwDecode | runLengthDecode | dctDecode | ccittFaxDecode
  | jbig2Decode | fnameUnknown (slot : Bytes)
  -- Level 1, the predictor selector (R93).
  | predNone | predTiff | predPngNone | predPngSub | predPngUp | predPngAvg | predPngPaeth | predPngOpt
  | predIllegal (p : BitVec 32)
  -- Level 2, the strategies of the FlateDecode ladder (R94).
  | flateS1 | flateS2 | flateS3 | flateS4 | flateS5 | flateS6 | flateS7
  -- Level 3, the zlib wrapper (R95): header and trailer.
  | zlibHdr (cmf : Byte) (flg : Byte) | zlibTrailer (v : BitVec 32)
  -- Block headers (R96); operand: BFINAL.
  | blkStored (final : Bool) | blkFixed (final : Bool) | blkDynamic (final : Bool) | blkReserved (final : Bool)
  -- The header of a dynamic block (R97); operands: the three fields as read, before their biases.
  | dynHdr (hlit : BitVec 5) (hdist : BitVec 5) (hclen : BitVec 4)
  -- Code-length symbols (R97); operand: the length, or the extra bits of a repeat.
  | clLen (l : BitVec 4) | clCopy (x : BitVec 2) | clZero3 (x : BitVec 3) | clZero11 (x : BitVec 7)
  -- Literal/length symbols (R98, R203); operand: the byte, or the extra bits.
  | lit (b : Byte) | eob | len257 | len258 | len259 | len260 | len261 | len262 | len263 | len264
  | len265 (x : BitVec 1) | len266 (x : BitVec 1) | len267 (x : BitVec 1) | len268 (x : BitVec 1)
  | len269 (x : BitVec 2) | len270 (x : BitVec 2) | len271 (x : BitVec 2) | len272 (x : BitVec 2)
  | len273 (x : BitVec 3) | len274 (x : BitVec 3) | len275 (x : BitVec 3) | len276 (x : BitVec 3)
  | len277 (x : BitVec 4) | len278 (x : BitVec 4) | len279 (x : BitVec 4) | len280 (x : BitVec 4)
  | len281 (x : BitVec 5) | len282 (x : BitVec 5) | len283 (x : BitVec 5) | len284 (x : BitVec 5) | len285
  | llIllegal (x : BitVec 1)
  -- Distance symbols (R98, R203); operand: the extra bits.
  | dist0 | dist1 | dist2 | dist3 | dist4 (x : BitVec 1) | dist5 (x : BitVec 1) | dist6 (x : BitVec 2)
  | dist7 (x : BitVec 2) | dist8 (x : BitVec 3) | dist9 (x : BitVec 3) | dist10 (x : BitVec 4)
  | dist11 (x : BitVec 4) | dist12 (x : BitVec 5) | dist13 (x : BitVec 5) | dist14 (x : BitVec 6)
  | dist15 (x : BitVec 6) | dist16 (x : BitVec 7) | dist17 (x : BitVec 7) | dist18 (x : BitVec 8)
  | dist19 (x : BitVec 8) | dist20 (x : BitVec 9) | dist21 (x : BitVec 9) | dist22 (x : BitVec 10)
  | dist23 (x : BitVec 10) | dist24 (x : BitVec 11) | dist25 (x : BitVec 11) | dist26 (x : BitVec 12)
  | dist27 (x : BitVec 12) | dist28 (x : BitVec 13) | dist29 (x : BitVec 13) | dIllegal (x : BitVec 1)
  -- LZW codes (R99).
  | lzwLit (b : Byte) | lzwClear | lzwEod | lzwRef (c : BitVec 16) | lzwKwkwk | lzwIllegal (c : BitVec 16)
  -- RunLength length bytes (R100); operand: the low seven bits.
  | rlLiteral (n : BitVec 7) | rlEod | rlRepeat (n : BitVec 7)
  -- ASCIIHex characters (R101); operand: the byte.
  | hexWs (c : Byte) | hexDigit (c : Byte) | hexEod | hexIllegal (c : Byte)
  -- ASCII85 characters (R102); operand: the byte.
  | a85Ws (c : Byte) | a85Digit (c : Byte) | a85Z | a85Term | a85Illegal (c : Byte)
  -- PNG row tags (R103).
  | pngNone | pngSub | pngUp | pngAverage | pngPaeth | pngTagIllegal (tag : Byte)
  -- A TIFF row (R103), which has no tag.
  | tiffRow
  -- Two-dimensional fax modes and EOL (R104); `fill`: the 0 bits before the EOL code.
  | faxV0 | faxVr1 | faxVr2 | faxVr3 | faxVl1 | faxVl2 | faxVl3 | faxHoriz | faxPass | faxEol (fill : Nat)
  | faxModeIllegal (x : BitVec 1)
  -- Bits that are no run-length code (R108). It stands here because Lean bounds the place of a constructor with operands.
  | faxRunIllegal (code : BitVec 13)
  -- Fax run-length codes (R105, R387 to R390): white, black, and common to both.
  | wT0 | wT1 | wT2 | wT3 | wT4 | wT5 | wT6 | wT7 | wT8 | wT9 | wT10 | wT11 | wT12 | wT13 | wT14 | wT15 | wT16
  | wT17 | wT18 | wT19 | wT20 | wT21 | wT22 | wT23 | wT24 | wT25 | wT26 | wT27 | wT28 | wT29 | wT30 | wT31 | wT32
  | wT33 | wT34 | wT35 | wT36 | wT37 | wT38 | wT39 | wT40 | wT41 | wT42 | wT43 | wT44 | wT45 | wT46 | wT47 | wT48
  | wT49 | wT50 | wT51 | wT52 | wT53 | wT54 | wT55 | wT56 | wT57 | wT58 | wT59 | wT60 | wT61 | wT62 | wT63 | wM64
  | wM128 | wM192 | wM256 | wM320 | wM384 | wM448 | wM512 | wM576 | wM640 | wM704 | wM768 | wM832 | wM896 | wM960
  | wM1024 | wM1088 | wM1152 | wM1216 | wM1280 | wM1344 | wM1408 | wM1472 | wM1536 | wM1600 | wM1664 | wM1728
  | bT0 | bT1 | bT2 | bT3 | bT4 | bT5 | bT6 | bT7 | bT8 | bT9 | bT10 | bT11 | bT12 | bT13 | bT14 | bT15 | bT16
  | bT17 | bT18 | bT19 | bT20 | bT21 | bT22 | bT23 | bT24 | bT25 | bT26 | bT27 | bT28 | bT29 | bT30 | bT31 | bT32
  | bT33 | bT34 | bT35 | bT36 | bT37 | bT38 | bT39 | bT40 | bT41 | bT42 | bT43 | bT44 | bT45 | bT46 | bT47 | bT48
  | bT49 | bT50 | bT51 | bT52 | bT53 | bT54 | bT55 | bT56 | bT57 | bT58 | bT59 | bT60 | bT61 | bT62 | bT63 | bM64
  | bM128 | bM192 | bM256 | bM320 | bM384 | bM448 | bM512 | bM576 | bM640 | bM704 | bM768 | bM832 | bM896 | bM960
  | bM1024 | bM1088 | bM1152 | bM1216 | bM1280 | bM1344 | bM1408 | bM1472 | bM1536 | bM1600 | bM1664 | bM1728
  | xM1792 | xM1856 | xM1920 | xM1984 | xM2048 | xM2112 | xM2176 | xM2240 | xM2304 | xM2368 | xM2432 | xM2496
  | xM2560
deriving DecidableEq, Repr

end Sys2Proof
end

