-- ==== Sys2Proof/WellFormed.lean ====
section
/-! DEFINITION. Well-formed instructions: the operands an encoding admits, where the operand's type alone does not say it.
With it stand the character and name classes that the checks use. -/

namespace Sys2Proof

/-- The eight filter names of R39, in index order, as the bytes R91 lists. -/
def filterNames : List Bytes :=
  [ [0x46, 0x6C, 0x61, 0x74, 0x65, 0x44, 0x65, 0x63, 0x6F, 0x64, 0x65],
    [0x41, 0x53, 0x43, 0x49, 0x49, 0x48, 0x65, 0x78, 0x44, 0x65, 0x63, 0x6F, 0x64, 0x65],
    [0x41, 0x53, 0x43, 0x49, 0x49, 0x38, 0x35, 0x44, 0x65, 0x63, 0x6F, 0x64, 0x65],
    [0x4C, 0x5A, 0x57, 0x44, 0x65, 0x63, 0x6F, 0x64, 0x65],
    [0x52, 0x75, 0x6E, 0x4C, 0x65, 0x6E, 0x67, 0x74, 0x68, 0x44, 0x65, 0x63, 0x6F, 0x64, 0x65],
    [0x44, 0x43, 0x54, 0x44, 0x65, 0x63, 0x6F, 0x64, 0x65],
    [0x43, 0x43, 0x49, 0x54, 0x54, 0x46, 0x61, 0x78, 0x44, 0x65, 0x63, 0x6F, 0x64, 0x65],
    [0x4A, 0x42, 0x49, 0x47, 0x32, 0x44, 0x65, 0x63, 0x6F, 0x64, 0x65] ]

/-- The name a slot holds (R38): the bytes before the first 0x00, or all 32. -/
def slotName (slot : Bytes) : Bytes := (slot.take 32).takeWhile (· ≠ 0)

/-- Is the name one of the eight (R39)? Compared byte for byte. -/
def knownName (name : Bytes) : Bool := filterNames.contains name

/-- The legal values of PREDICTOR (R93, R322). -/
def legalSelector (p : BitVec 32) : Bool :=
  [1, 2, 10, 11, 12, 13, 14, 15].contains p.toNat

/-- `HexVal` (R283): the value of a hexadecimal digit of either case. -/
def hexVal (c : Byte) : Option (BitVec 4) :=
  if 0x30 ≤ c.toNat ∧ c.toNat ≤ 0x39 then some (BitVec.ofNat 4 (c.toNat - 0x30))
  else if 0x41 ≤ c.toNat ∧ c.toNat ≤ 0x46 then some (BitVec.ofNat 4 (c.toNat - 0x41 + 10))
  else if 0x61 ≤ c.toNat ∧ c.toNat ≤ 0x66 then some (BitVec.ofNat 4 (c.toNat - 0x61 + 10))
  else none

/-- The ASCII85 digits (R290). -/
def isA85Digit (c : Byte) : Bool := decide (0x21 ≤ c.toNat) && decide (c.toNat ≤ 0x75)

/-- The operands an instruction may have in every context. What only a context can decide (the whitespace set, the
table in use, NEXT_CODE) is checked by `encode`, which answers `none` there. -/
def Instr.wf : Instr → Bool
  | .fnameUnknown slot => decide (slot.length = 32) && !knownName (slotName slot)
  | .predIllegal p => !legalSelector p
  | .rlRepeat n => decide (n ≠ 0)
  | .lzwRef c => decide (258 ≤ c.toNat)
  | .lzwIllegal c => decide (258 ≤ c.toNat)
  | .hexDigit c => (hexVal c).isSome
  | .hexIllegal c => (hexVal c).isNone
  | .a85Digit c => isA85Digit c
  | .a85Illegal c => !isA85Digit c && decide (c ≠ 0x7A) && decide (c ≠ 0x7E)
  | .pngTagIllegal tag => decide (4 < tag.toNat)
  | .decodeStream | .decodeStreamOpt | .ccittDecode | .ccittGray | .ack | .flateDecode | .asciiHexDecode
  | .ascii85Decode | .lzwDecode | .runLengthDecode | .dctDecode | .ccittFaxDecode | .jbig2Decode | .predNone
  | .predTiff | .predPngNone | .predPngSub | .predPngUp | .predPngAvg | .predPngPaeth | .predPngOpt | .flateS1
  | .flateS2 | .flateS3 | .flateS4 | .flateS5 | .flateS6 | .flateS7 | .zlibHdr _ _ | .zlibTrailer _
  | .blkStored _ | .blkFixed _ | .blkDynamic _ | .blkReserved _ | .dynHdr _ _ _ | .clLen _ | .clCopy _
  | .clZero3 _ | .clZero11 _ | .lit _ | .eob | .len257 | .len258 | .len259 | .len260 | .len261 | .len262
  | .len263 | .len264 | .len265 _ | .len266 _ | .len267 _ | .len268 _ | .len269 _ | .len270 _ | .len271 _
  | .len272 _ | .len273 _ | .len274 _ | .len275 _ | .len276 _ | .len277 _ | .len278 _ | .len279 _ | .len280 _
  | .len281 _ | .len282 _ | .len283 _ | .len284 _ | .len285 | .llIllegal _ | .dist0 | .dist1 | .dist2 | .dist3
  | .dist4 _ | .dist5 _ | .dist6 _ | .dist7 _ | .dist8 _ | .dist9 _ | .dist10 _ | .dist11 _ | .dist12 _
  | .dist13 _ | .dist14 _ | .dist15 _ | .dist16 _ | .dist17 _ | .dist18 _ | .dist19 _ | .dist20 _ | .dist21 _
  | .dist22 _ | .dist23 _ | .dist24 _ | .dist25 _ | .dist26 _ | .dist27 _ | .dist28 _ | .dist29 _ | .dIllegal _
  | .lzwLit _ | .lzwClear | .lzwEod | .lzwKwkwk | .rlLiteral _ | .rlEod | .hexWs _ | .hexEod | .a85Ws _ | .a85Z
  | .a85Term | .pngNone | .pngSub | .pngUp | .pngAverage | .pngPaeth | .tiffRow | .faxV0 | .faxVr1 | .faxVr2
  | .faxVr3 | .faxVl1 | .faxVl2 | .faxVl3 | .faxHoriz | .faxPass | .faxEol _ | .faxModeIllegal _ | .wT0 | .wT1
  | .wT2 | .wT3 | .wT4 | .wT5 | .wT6 | .wT7 | .wT8 | .wT9 | .wT10 | .wT11 | .wT12 | .wT13 | .wT14 | .wT15 | .wT16
  | .wT17 | .wT18 | .wT19 | .wT20 | .wT21 | .wT22 | .wT23 | .wT24 | .wT25 | .wT26 | .wT27 | .wT28 | .wT29 | .wT30
  | .wT31 | .wT32 | .wT33 | .wT34 | .wT35 | .wT36 | .wT37 | .wT38 | .wT39 | .wT40 | .wT41 | .wT42 | .wT43 | .wT44
  | .wT45 | .wT46 | .wT47 | .wT48 | .wT49 | .wT50 | .wT51 | .wT52 | .wT53 | .wT54 | .wT55 | .wT56 | .wT57 | .wT58
  | .wT59 | .wT60 | .wT61 | .wT62 | .wT63 | .wM64 | .wM128 | .wM192 | .wM256 | .wM320 | .wM384 | .wM448 | .wM512
  | .wM576 | .wM640 | .wM704 | .wM768 | .wM832 | .wM896 | .wM960 | .wM1024 | .wM1088 | .wM1152 | .wM1216
  | .wM1280 | .wM1344 | .wM1408 | .wM1472 | .wM1536 | .wM1600 | .wM1664 | .wM1728 | .bT0 | .bT1 | .bT2 | .bT3
  | .bT4 | .bT5 | .bT6 | .bT7 | .bT8 | .bT9 | .bT10 | .bT11 | .bT12 | .bT13 | .bT14 | .bT15 | .bT16 | .bT17
  | .bT18 | .bT19 | .bT20 | .bT21 | .bT22 | .bT23 | .bT24 | .bT25 | .bT26 | .bT27 | .bT28 | .bT29 | .bT30 | .bT31
  | .bT32 | .bT33 | .bT34 | .bT35 | .bT36 | .bT37 | .bT38 | .bT39 | .bT40 | .bT41 | .bT42 | .bT43 | .bT44 | .bT45
  | .bT46 | .bT47 | .bT48 | .bT49 | .bT50 | .bT51 | .bT52 | .bT53 | .bT54 | .bT55 | .bT56 | .bT57 | .bT58 | .bT59
  | .bT60 | .bT61 | .bT62 | .bT63 | .bM64 | .bM128 | .bM192 | .bM256 | .bM320 | .bM384 | .bM448 | .bM512 | .bM576
  | .bM640 | .bM704 | .bM768 | .bM832 | .bM896 | .bM960 | .bM1024 | .bM1088 | .bM1152 | .bM1216 | .bM1280
  | .bM1344 | .bM1408 | .bM1472 | .bM1536 | .bM1600 | .bM1664 | .bM1728 | .xM1792 | .xM1856 | .xM1920 | .xM1984
  | .xM2048 | .xM2112 | .xM2176 | .xM2240 | .xM2304 | .xM2368 | .xM2432 | .xM2496 | .xM2560 | .faxRunIllegal _ => true

end Sys2Proof
end

