-- ==== Sys2Proof/Decode.lean ====
section
/-! DEFINITION. Decoding and encoding (30_encoding.md). A code stream is a list of bits in the order its engine reads
them; a format says how the next bits are read, with what the reading needs of the decoder's state. Decoding is total: it
answers an instruction and how many bits it took, or a rejection by name. -/

namespace Sys2Proof

/-- The colour of a fax run (R44). -/
inductive Colour where
  | white | black
deriving DecidableEq, Repr

/-- One entry of a Huffman table (R42): the code of `len` bits with value `code` stands for the symbol `sym`. -/
structure HuffEntry where
  len : Nat
  code : Nat
  sym : Nat
deriving DecidableEq, Repr

/-- A Huffman decoding table: a finite partial map from (length, code value) to a symbol (R42). -/
abbrev HuffTable := List HuffEntry

/-- One code of a fax table: `len` bits with value `code` (R104, R105). -/
structure FaxCode where
  len : Nat
  code : Nat
  instr : Instr
deriving DecidableEq, Repr

/-- The formats of 30_encoding.md, each with what its reading needs of the state. -/
inductive Format where
  /-- One write of CTRL (R90). -/
  | cmd
  /-- One 32-byte slot (R91). -/
  | fname
  /-- The predictor selector (R93). -/
  | pred
  /-- Strategy `n` of the ladder (R94), which no bit encodes. -/
  | strategy (n : Nat)
  /-- CMF and FLG (R95). -/
  | zlibHdr
  /-- ADLER32 (R95). -/
  | zlibTrailer
  /-- The three header bits of a block (R96). -/
  | deflateBlk
  /-- The three fields of a dynamic header (R97). -/
  | dynHdr
  /-- A code-length symbol (R97); `noPrev`: no code length has been read yet, so that symbol 16 fails before its extra
  bits are read (R201). -/
  | clSym (t : HuffTable) (noPrev : Bool)
  /-- A literal/length symbol (R98). -/
  | llSym (t : HuffTable)
  /-- A distance symbol (R98). -/
  | dSym (t : HuffTable)
  /-- An LZW code (R99): the code width, NEXT_CODE, and whether PREV is present. -/
  | lzwCode (width next : Nat) (prev : Bool)
  /-- A RunLength length byte (R100). -/
  | rlByte
  /-- An ASCIIHex character (R101); `last`: no byte outside `ws` follows it. -/
  | hexChar (ws : Bytes) (last : Bool)
  /-- An ASCII85 character (R102). -/
  | a85Char (ws : Bytes)
  /-- A PNG row's tag byte (R103); `implied`: the tag the predictor implies (R328). -/
  | pngRow (implied : Option Nat)
  /-- A TIFF row (R103). -/
  | tiffRow
  /-- An end-of-line code (R386); `strict`: exactly the twelve bits of R104, without fill (R392). -/
  | faxEol (strict : Bool)
  /-- A two-dimensional mode (R104). -/
  | faxMode
  /-- A run-length code of one colour (R105). -/
  | faxRun (c : Colour)
deriving DecidableEq, Repr

/-- Why no instruction could be read. -/
inductive Reject where
  /-- The input ends inside the code. -/
  | endOfInput
  /-- The bits are no code of the format's table. -/
  | noCode
  /-- A write of CTRL with START = 0 and ACK = 0, a no-operation (R90). -/
  | noCommand
  /-- A ladder has the strategies 1 to 7 only (R94). -/
  | noStrategy
deriving DecidableEq, Repr

/-- What decoding answers: an instruction and the number of bits it took, or a rejection by name. -/
inductive Decoded where
  | instr (i : Instr) (used : Nat)
  | reject (r : Reject)
deriving DecidableEq, Repr

/-! ## Bits -/

/-- The `n` low bits of `v`, bit 0 first (R63). -/
def bitsL (n v : Nat) : List Bool := (List.range n).map fun i => v.testBit i

/-- The `n` low bits of `v`, bit `n - 1` first (R62). -/
def bitsM (n v : Nat) : List Bool := (List.range n).map fun i => v.testBit (n - 1 - i)

/-- The number whose bits, least significant first, are `bs` (R63). -/
def natL : List Bool → Nat
  | [] => 0
  | b :: bs => b.toNat + 2 * natL bs

/-- The number whose bits, most significant first, are `bs` (R62). -/
def natM (bs : List Bool) : Nat := bs.foldl (fun v b => 2 * v + b.toNat) 0

/-- A byte sequence as the bits an LSB-first engine reads (R63). -/
def streamL (b : Bytes) : List Bool := b.flatMap fun c => bitsL 8 c.toNat

/-- A byte sequence as the bits an MSB-first engine reads (R62). -/
def streamM (b : Bytes) : List Bool := b.flatMap fun c => bitsM 8 c.toNat

/-- The next `n` bits, or `none` where fewer remain (R62, R63). -/
def takeBits (n : Nat) (bs : List Bool) : Option (List Bool) :=
  if (bs.take n).length < n then none else some (bs.take n)

/-- `ReadBits_L(n)` (R63) on a list of bits. -/
def fieldL (n : Nat) (bs : List Bool) : Option Nat := (takeBits n bs).map natL

/-- `ReadBits_M(n)` (R62) on a list of bits. -/
def fieldM (n : Nat) (bs : List Bool) : Option Nat := (takeBits n bs).map natM

/-- The next `n` bytes of an LSB-first stream that stands at a byte boundary. -/
def bytesL : Nat → List Bool → Option Bytes
  | 0, _ => some []
  | n + 1, bs =>
    match fieldL 8 bs with
    | none => none
    | some v => (bytesL n (bs.drop 8)).map (BitVec.ofNat 8 v :: ·)

/-- What matching a prefix code bit by bit gives (R202, R381). -/
inductive CodeRead (α : Type) where
  | hit (a : α) (used : Nat)
  | noCode
  | short
deriving DecidableEq, Repr

/-- Match at most `fuel` more bits, the first being the most significant of the code: `l` bits with value `c` were read
before. The first (length, value) that `look` knows is the code (R202, R381). -/
def readCode {α : Type} (look : Nat → Nat → Option α) : (fuel l c : Nat) → List Bool → CodeRead α
  | 0, _, _, _ => .noCode
  | _ + 1, _, _, [] => .short
  | fuel + 1, l, c, b :: bs =>
    match look (l + 1) (2 * c + b.toNat) with
    | some a => .hit a (l + 1)
    | none => readCode look fuel (l + 1) (2 * c + b.toNat) bs

/-- The symbol of a code of a Huffman table (R202). -/
def huffLook (t : HuffTable) (l c : Nat) : Option Nat :=
  (t.find? fun e => e.len == l && e.code == c).map (·.sym)

/-- `DecodeSym` (R202): at most 15 bits. -/
def decodeSym (t : HuffTable) (bs : List Bool) : CodeRead Nat := readCode (huffLook t) 15 0 0 bs

/-- The code of a symbol, most significant bit first. -/
def huffCode (t : HuffTable) (sym : Nat) : Option (List Bool) :=
  (t.find? fun e => e.sym == sym).map fun e => bitsM e.len e.code

/-! ## The fax tables -/

/-- White terminating codes (R387). -/
def whiteTerminating : List FaxCode :=
  [⟨8, 0b00110101, .wT0⟩, ⟨6, 0b000111, .wT1⟩, ⟨4, 0b0111, .wT2⟩, ⟨4, 0b1000, .wT3⟩, ⟨4, 0b1011, .wT4⟩,
    ⟨4, 0b1100, .wT5⟩, ⟨4, 0b1110, .wT6⟩, ⟨4, 0b1111, .wT7⟩, ⟨5, 0b10011, .wT8⟩, ⟨5, 0b10100, .wT9⟩,
    ⟨5, 0b00111, .wT10⟩, ⟨5, 0b01000, .wT11⟩, ⟨6, 0b001000, .wT12⟩, ⟨6, 0b000011, .wT13⟩, ⟨6, 0b110100, .wT14⟩,
    ⟨6, 0b110101, .wT15⟩, ⟨6, 0b101010, .wT16⟩, ⟨6, 0b101011, .wT17⟩, ⟨7, 0b0100111, .wT18⟩, ⟨7, 0b0001100, .wT19⟩,
    ⟨7, 0b0001000, .wT20⟩, ⟨7, 0b0010111, .wT21⟩, ⟨7, 0b0000011, .wT22⟩, ⟨7, 0b0000100, .wT23⟩,
    ⟨7, 0b0101000, .wT24⟩, ⟨7, 0b0101011, .wT25⟩, ⟨7, 0b0010011, .wT26⟩, ⟨7, 0b0100100, .wT27⟩,
    ⟨7, 0b0011000, .wT28⟩, ⟨8, 0b00000010, .wT29⟩, ⟨8, 0b00000011, .wT30⟩, ⟨8, 0b00011010, .wT31⟩] ++
  [⟨8, 0b00011011, .wT32⟩, ⟨8, 0b00010010, .wT33⟩, ⟨8, 0b00010011, .wT34⟩, ⟨8, 0b00010100, .wT35⟩,
    ⟨8, 0b00010101, .wT36⟩, ⟨8, 0b00010110, .wT37⟩, ⟨8, 0b00010111, .wT38⟩, ⟨8, 0b00101000, .wT39⟩,
    ⟨8, 0b00101001, .wT40⟩, ⟨8, 0b00101010, .wT41⟩, ⟨8, 0b00101011, .wT42⟩, ⟨8, 0b00101100, .wT43⟩,
    ⟨8, 0b00101101, .wT44⟩, ⟨8, 0b00000100, .wT45⟩, ⟨8, 0b00000101, .wT46⟩, ⟨8, 0b00001010, .wT47⟩,
    ⟨8, 0b00001011, .wT48⟩, ⟨8, 0b01010010, .wT49⟩, ⟨8, 0b01010011, .wT50⟩, ⟨8, 0b01010100, .wT51⟩,
    ⟨8, 0b01010101, .wT52⟩, ⟨8, 0b00100100, .wT53⟩, ⟨8, 0b00100101, .wT54⟩, ⟨8, 0b01011000, .wT55⟩,
    ⟨8, 0b01011001, .wT56⟩, ⟨8, 0b01011010, .wT57⟩, ⟨8, 0b01011011, .wT58⟩, ⟨8, 0b01001010, .wT59⟩,
    ⟨8, 0b01001011, .wT60⟩, ⟨8, 0b00110010, .wT61⟩, ⟨8, 0b00110011, .wT62⟩, ⟨8, 0b00110100, .wT63⟩]

/-- White make-up codes (R388). -/
def whiteMakeUp : List FaxCode :=
  [⟨5, 0b11011, .wM64⟩, ⟨5, 0b10010, .wM128⟩, ⟨6, 0b010111, .wM192⟩, ⟨7, 0b0110111, .wM256⟩, ⟨8, 0b00110110, .wM320⟩,
    ⟨8, 0b00110111, .wM384⟩, ⟨8, 0b01100100, .wM448⟩, ⟨8, 0b01100101, .wM512⟩, ⟨8, 0b01101000, .wM576⟩,
    ⟨8, 0b01100111, .wM640⟩, ⟨9, 0b011001100, .wM704⟩, ⟨9, 0b011001101, .wM768⟩, ⟨9, 0b011010010, .wM832⟩,
    ⟨9, 0b011010011, .wM896⟩, ⟨9, 0b011010100, .wM960⟩, ⟨9, 0b011010101, .wM1024⟩, ⟨9, 0b011010110, .wM1088⟩,
    ⟨9, 0b011010111, .wM1152⟩, ⟨9, 0b011011000, .wM1216⟩, ⟨9, 0b011011001, .wM1280⟩, ⟨9, 0b011011010, .wM1344⟩,
    ⟨9, 0b011011011, .wM1408⟩, ⟨9, 0b010011000, .wM1472⟩, ⟨9, 0b010011001, .wM1536⟩, ⟨9, 0b010011010, .wM1600⟩,
    ⟨6, 0b011000, .wM1664⟩, ⟨9, 0b010011011, .wM1728⟩]

/-- Black terminating codes (R389). -/
def blackTerminating : List FaxCode :=
  [⟨10, 0b0000110111, .bT0⟩, ⟨3, 0b010, .bT1⟩, ⟨2, 0b11, .bT2⟩, ⟨2, 0b10, .bT3⟩, ⟨3, 0b011, .bT4⟩, ⟨4, 0b0011, .bT5⟩,
    ⟨4, 0b0010, .bT6⟩, ⟨5, 0b00011, .bT7⟩, ⟨6, 0b000101, .bT8⟩, ⟨6, 0b000100, .bT9⟩, ⟨7, 0b0000100, .bT10⟩,
    ⟨7, 0b0000101, .bT11⟩, ⟨7, 0b0000111, .bT12⟩, ⟨8, 0b00000100, .bT13⟩, ⟨8, 0b00000111, .bT14⟩,
    ⟨9, 0b000011000, .bT15⟩, ⟨10, 0b0000010111, .bT16⟩, ⟨10, 0b0000011000, .bT17⟩, ⟨10, 0b0000001000, .bT18⟩,
    ⟨11, 0b00001100111, .bT19⟩, ⟨11, 0b00001101000, .bT20⟩, ⟨11, 0b00001101100, .bT21⟩, ⟨11, 0b00000110111, .bT22⟩,
    ⟨11, 0b00000101000, .bT23⟩, ⟨11, 0b00000010111, .bT24⟩, ⟨11, 0b00000011000, .bT25⟩, ⟨12, 0b000011001010, .bT26⟩,
    ⟨12, 0b000011001011, .bT27⟩, ⟨12, 0b000011001100, .bT28⟩, ⟨12, 0b000011001101, .bT29⟩,
    ⟨12, 0b000001101000, .bT30⟩, ⟨12, 0b000001101001, .bT31⟩] ++
  [⟨12, 0b000001101010, .bT32⟩, ⟨12, 0b000001101011, .bT33⟩, ⟨12, 0b000011010010, .bT34⟩,
    ⟨12, 0b000011010011, .bT35⟩, ⟨12, 0b000011010100, .bT36⟩, ⟨12, 0b000011010101, .bT37⟩,
    ⟨12, 0b000011010110, .bT38⟩, ⟨12, 0b000011010111, .bT39⟩, ⟨12, 0b000001101100, .bT40⟩,
    ⟨12, 0b000001101101, .bT41⟩, ⟨12, 0b000011011010, .bT42⟩, ⟨12, 0b000011011011, .bT43⟩,
    ⟨12, 0b000001010100, .bT44⟩, ⟨12, 0b000001010101, .bT45⟩, ⟨12, 0b000001010110, .bT46⟩,
    ⟨12, 0b000001010111, .bT47⟩, ⟨12, 0b000001100100, .bT48⟩, ⟨12, 0b000001100101, .bT49⟩,
    ⟨12, 0b000001010010, .bT50⟩, ⟨12, 0b000001010011, .bT51⟩, ⟨12, 0b000000100100, .bT52⟩,
    ⟨12, 0b000000110111, .bT53⟩, ⟨12, 0b000000111000, .bT54⟩, ⟨12, 0b000000100111, .bT55⟩,
    ⟨12, 0b000000101000, .bT56⟩, ⟨12, 0b000001011000, .bT57⟩, ⟨12, 0b000001011001, .bT58⟩,
    ⟨12, 0b000000101011, .bT59⟩, ⟨12, 0b000000101100, .bT60⟩, ⟨12, 0b000001011010, .bT61⟩,
    ⟨12, 0b000001100110, .bT62⟩, ⟨12, 0b000001100111, .bT63⟩]

/-- Black make-up codes (R390). -/
def blackMakeUp : List FaxCode :=
  [⟨10, 0b0000001111, .bM64⟩, ⟨12, 0b000011001000, .bM128⟩, ⟨12, 0b000011001001, .bM192⟩,
    ⟨12, 0b000001011011, .bM256⟩, ⟨12, 0b000000110011, .bM320⟩, ⟨12, 0b000000110100, .bM384⟩,
    ⟨12, 0b000000110101, .bM448⟩, ⟨13, 0b0000001101100, .bM512⟩, ⟨13, 0b0000001101101, .bM576⟩,
    ⟨13, 0b0000001001010, .bM640⟩, ⟨13, 0b0000001001011, .bM704⟩, ⟨13, 0b0000001001100, .bM768⟩,
    ⟨13, 0b0000001001101, .bM832⟩, ⟨13, 0b0000001110010, .bM896⟩, ⟨13, 0b0000001110011, .bM960⟩,
    ⟨13, 0b0000001110100, .bM1024⟩, ⟨13, 0b0000001110101, .bM1088⟩, ⟨13, 0b0000001110110, .bM1152⟩,
    ⟨13, 0b0000001110111, .bM1216⟩, ⟨13, 0b0000001010010, .bM1280⟩, ⟨13, 0b0000001010011, .bM1344⟩,
    ⟨13, 0b0000001010100, .bM1408⟩, ⟨13, 0b0000001010101, .bM1472⟩, ⟨13, 0b0000001011010, .bM1536⟩,
    ⟨13, 0b0000001011011, .bM1600⟩, ⟨13, 0b0000001100100, .bM1664⟩, ⟨13, 0b0000001100101, .bM1728⟩]

/-- Make-up codes common to both colours (R390). -/
def commonMakeUp : List FaxCode :=
  [⟨11, 0b00000001000, .xM1792⟩, ⟨11, 0b00000001100, .xM1856⟩, ⟨11, 0b00000001101, .xM1920⟩,
    ⟨12, 0b000000010010, .xM1984⟩, ⟨12, 0b000000010011, .xM2048⟩, ⟨12, 0b000000010100, .xM2112⟩,
    ⟨12, 0b000000010101, .xM2176⟩, ⟨12, 0b000000010110, .xM2240⟩, ⟨12, 0b000000010111, .xM2304⟩,
    ⟨12, 0b000000011100, .xM2368⟩, ⟨12, 0b000000011101, .xM2432⟩, ⟨12, 0b000000011110, .xM2496⟩,
    ⟨12, 0b000000011111, .xM2560⟩]

/-- `WTAB` and `BTAB` (R390): 104 codes each. -/
def faxRunTab : Colour → List FaxCode
  | .white => whiteTerminating ++ whiteMakeUp ++ commonMakeUp
  | .black => blackTerminating ++ blackMakeUp ++ commonMakeUp

/-- `MTAB` (R104, R393): the nine mode codes. -/
def faxModeTab : List FaxCode :=
  [⟨1, 0b1, .faxV0⟩, ⟨3, 0b011, .faxVr1⟩, ⟨6, 0b000011, .faxVr2⟩, ⟨7, 0b0000011, .faxVr3⟩, ⟨3, 0b010, .faxVl1⟩,
   ⟨6, 0b000010, .faxVl2⟩, ⟨7, 0b0000010, .faxVl3⟩, ⟨3, 0b001, .faxHoriz⟩, ⟨4, 0b0001, .faxPass⟩]

/-- The instruction of a code of a fax table. -/
def faxLook (t : List FaxCode) (l c : Nat) : Option Instr :=
  (t.find? fun e => e.len == l && e.code == c).map (·.instr)

/-- The bits of an instruction that stands in a fax table. -/
def faxBits (t : List FaxCode) (i : Instr) : Option (List Bool) :=
  (t.find? fun e => decide (e.instr = i)).map fun e => bitsM e.len e.code

/-- The number of 0 bits before the first 1 bit, or `none` where no 1 bit follows (R386). -/
def leadingZeros : List Bool → Option Nat
  | [] => none
  | true :: _ => some 0
  | false :: bs => (leadingZeros bs).map (· + 1)

/-! ## Decoding -/

/-- An instruction whose operand is the next `w` bits, read LSB-first (R107). -/
def withExtra (w used : Nat) (rest : List Bool) (mk : BitVec w → Instr) : Decoded :=
  match fieldL w rest with
  | none => .reject .endOfInput
  | some v => .instr (mk (BitVec.ofNat w v)) (used + w)

/-- One write of CTRL (R22, R90): START wins over ACK; OP is bits 5:4. -/
def decodeCmd (w : Nat) : Decoded :=
  if w.testBit 0 then
    match w / 16 % 4 with
    | 0 => .instr .decodeStream 64
    | 1 => .instr .decodeStreamOpt 64
    | 2 => .instr .ccittDecode 64
    | _ => .instr .ccittGray 64
  else if w.testBit 1 then .instr .ack 64
  else .reject .noCommand

/-- `FilterId` (R39) on a slot: the instruction of the eight names, or the illegal one. -/
def decodeSlot (slot : Bytes) : Instr :=
  match filterNames.idxOf (slotName slot) with
  | 0 => .flateDecode
  | 1 => .asciiHexDecode
  | 2 => .ascii85Decode
  | 3 => .lzwDecode
  | 4 => .runLengthDecode
  | 5 => .dctDecode
  | 6 => .ccittFaxDecode
  | 7 => .jbig2Decode
  | _ => .fnameUnknown slot

/-- The predictor selector (R93). -/
def decodePred (p : BitVec 32) : Instr :=
  match p.toNat with
  | 1 => .predNone
  | 2 => .predTiff
  | 10 => .predPngNone
  | 11 => .predPngSub
  | 12 => .predPngUp
  | 13 => .predPngAvg
  | 14 => .predPngPaeth
  | 15 => .predPngOpt
  | _ => .predIllegal p

/-- Strategy `n` of the ladder (R94). -/
def decodeStrategy : Nat → Decoded
  | 1 => .instr .flateS1 0
  | 2 => .instr .flateS2 0
  | 3 => .instr .flateS3 0
  | 4 => .instr .flateS4 0
  | 5 => .instr .flateS5 0
  | 6 => .instr .flateS6 0
  | 7 => .instr .flateS7 0
  | _ => .reject .noStrategy

/-- The three header bits of a block, BFINAL first and then BTYPE low bit first (R96). -/
def decodeBlk : List Bool → Decoded
  | f :: false :: false :: _ => .instr (.blkStored f) 3
  | f :: true :: false :: _ => .instr (.blkFixed f) 3
  | f :: false :: true :: _ => .instr (.blkDynamic f) 3
  | f :: true :: true :: _ => .instr (.blkReserved f) 3
  | _ => .reject .endOfInput

/-- A code-length symbol after its code of `used` bits (R97, R201). -/
def clInstr (noPrev : Bool) (sym used : Nat) (rest : List Bool) : Decoded :=
  if sym < 16 then .instr (.clLen (BitVec.ofNat 4 sym)) used
  else match sym with
  | 16 => if noPrev then .instr (.clCopy 0) used else withExtra 2 used rest .clCopy
  | 17 => withExtra 3 used rest .clZero3
  | 18 => withExtra 7 used rest .clZero11
  | _ => .reject .noCode

/-- A literal/length symbol after its code of `used` bits (R98, R203). -/
def llInstr (sym used : Nat) (rest : List Bool) : Decoded :=
  if sym < 256 then .instr (.lit (BitVec.ofNat 8 sym)) used
  else match sym with
  | 256 => .instr .eob used
  | 257 => .instr .len257 used
  | 258 => .instr .len258 used
  | 259 => .instr .len259 used
  | 260 => .instr .len260 used
  | 261 => .instr .len261 used
  | 262 => .instr .len262 used
  | 263 => .instr .len263 used
  | 264 => .instr .len264 used
  | 265 => withExtra 1 used rest .len265
  | 266 => withExtra 1 used rest .len266
  | 267 => withExtra 1 used rest .len267
  | 268 => withExtra 1 used rest .len268
  | 269 => withExtra 2 used rest .len269
  | 270 => withExtra 2 used rest .len270
  | 271 => withExtra 2 used rest .len271
  | 272 => withExtra 2 used rest .len272
  | 273 => withExtra 3 used rest .len273
  | 274 => withExtra 3 used rest .len274
  | 275 => withExtra 3 used rest .len275
  | 276 => withExtra 3 used rest .len276
  | 277 => withExtra 4 used rest .len277
  | 278 => withExtra 4 used rest .len278
  | 279 => withExtra 4 used rest .len279
  | 280 => withExtra 4 used rest .len280
  | 281 => withExtra 5 used rest .len281
  | 282 => withExtra 5 used rest .len282
  | 283 => withExtra 5 used rest .len283
  | 284 => withExtra 5 used rest .len284
  | 285 => .instr .len285 used
  | 286 => .instr (.llIllegal 0) used
  | 287 => .instr (.llIllegal 1) used
  | _ => .reject .noCode

/-- A distance symbol after its code of `used` bits (R98, R203). -/
def dInstr (sym used : Nat) (rest : List Bool) : Decoded :=
  match sym with
  | 0 => .instr .dist0 used
  | 1 => .instr .dist1 used
  | 2 => .instr .dist2 used
  | 3 => .instr .dist3 used
  | 4 => withExtra 1 used rest .dist4
  | 5 => withExtra 1 used rest .dist5
  | 6 => withExtra 2 used rest .dist6
  | 7 => withExtra 2 used rest .dist7
  | 8 => withExtra 3 used rest .dist8
  | 9 => withExtra 3 used rest .dist9
  | 10 => withExtra 4 used rest .dist10
  | 11 => withExtra 4 used rest .dist11
  | 12 => withExtra 5 used rest .dist12
  | 13 => withExtra 5 used rest .dist13
  | 14 => withExtra 6 used rest .dist14
  | 15 => withExtra 6 used rest .dist15
  | 16 => withExtra 7 used rest .dist16
  | 17 => withExtra 7 used rest .dist17
  | 18 => withExtra 8 used rest .dist18
  | 19 => withExtra 8 used rest .dist19
  | 20 => withExtra 9 used rest .dist20
  | 21 => withExtra 9 used rest .dist21
  | 22 => withExtra 10 used rest .dist22
  | 23 => withExtra 10 used rest .dist23
  | 24 => withExtra 11 used rest .dist24
  | 25 => withExtra 11 used rest .dist25
  | 26 => withExtra 12 used rest .dist26
  | 27 => withExtra 12 used rest .dist27
  | 28 => withExtra 13 used rest .dist28
  | 29 => withExtra 13 used rest .dist29
  | 30 => .instr (.dIllegal 0) used
  | 31 => .instr (.dIllegal 1) used
  | _ => .reject .noCode

/-- An LZW code (R99) classified against NEXT_CODE and PREV. The code 4096 at NEXT_CODE = 4096 with PREV present is
`LZW_KWKWK` here, as R99 classifies it; that it stands for nothing is its meaning's (DEDUCED, log 31). -/
def decodeLzw (next : Nat) (prev : Bool) (c : Nat) : Instr :=
  if c < 256 then .lzwLit (BitVec.ofNat 8 c)
  else if c = 256 then .lzwClear
  else if c = 257 then .lzwEod
  else if c < next then .lzwRef (BitVec.ofNat 16 c)
  else if c = next ∧ prev then .lzwKwkwk
  else .lzwIllegal (BitVec.ofNat 16 c)

/-- A RunLength length byte (R100). -/
def decodeRl (c : Byte) : Instr :=
  if c.toNat < 128 then .rlLiteral (BitVec.ofNat 7 c.toNat)
  else if c.toNat = 128 then .rlEod
  else .rlRepeat (BitVec.ofNat 7 c.toNat)

/-- An ASCIIHex character (R101, R282): whitespace is removed first, then one `>` that no other byte follows. -/
def decodeHex (ws : Bytes) (last : Bool) (c : Byte) : Instr :=
  if ws.contains c then .hexWs c
  else if (hexVal c).isSome then .hexDigit c
  else if c = 0x3E ∧ last then .hexEod
  else .hexIllegal c

/-- An ASCII85 character (R102), tested in the order of R288. -/
def decodeA85 (ws : Bytes) (c : Byte) : Instr :=
  if ws.contains c then .a85Ws c
  else if c = 0x7E then .a85Term
  else if c = 0x7A then .a85Z
  else if isA85Digit c then .a85Digit c
  else .a85Illegal c

/-- A PNG row tag (R103). -/
def decodeTag (tag : Byte) : Instr :=
  match tag.toNat with
  | 0 => .pngNone
  | 1 => .pngSub
  | 2 => .pngUp
  | 3 => .pngAverage
  | 4 => .pngPaeth
  | _ => .pngTagIllegal tag

/-- An instruction that is one byte of an MSB-first stream. -/
def decodeByte (bs : List Bool) (mk : Byte → Instr) : Decoded :=
  match fieldM 8 bs with
  | none => .reject .endOfInput
  | some v => .instr (mk (BitVec.ofNat 8 v)) 8

/-- An instruction that follows a Huffman code. -/
def decodeHuff (t : HuffTable) (bs : List Bool) (mk : (sym used : Nat) → List Bool → Decoded) : Decoded :=
  match decodeSym t bs with
  | .hit s n => mk s n (bs.drop n)
  | .noCode => .reject .noCode
  | .short => .reject .endOfInput

/-- Decode the instruction at the front of `bs`. -/
def decode (f : Format) (bs : List Bool) : Decoded :=
  match f with
  | .cmd =>
    match fieldL 64 bs with
    | none => .reject .endOfInput
    | some w => decodeCmd w
  | .fname =>
    match bytesL 32 bs with
    | none => .reject .endOfInput
    | some slot => .instr (decodeSlot slot) 256
  | .pred =>
    match fieldL 32 bs with
    | none => .reject .endOfInput
    | some p => .instr (decodePred (BitVec.ofNat 32 p)) 32
  | .strategy n => decodeStrategy n
  | .zlibHdr =>
    match fieldL 8 bs, fieldL 8 (bs.drop 8) with
    | some cmf, some flg => .instr (.zlibHdr (BitVec.ofNat 8 cmf) (BitVec.ofNat 8 flg)) 16
    | _, _ => .reject .endOfInput
  | .zlibTrailer =>
    match bytesL 4 bs with
    | none => .reject .endOfInput
    | some b => .instr (.zlibTrailer (BitVec.ofNat 32 (b.foldl (fun v c => 256 * v + c.toNat) 0))) 32
  | .deflateBlk => decodeBlk bs
  | .dynHdr =>
    match fieldL 5 bs, fieldL 5 (bs.drop 5), fieldL 4 (bs.drop 10) with
    | some l, some d, some c => .instr (.dynHdr (BitVec.ofNat 5 l) (BitVec.ofNat 5 d) (BitVec.ofNat 4 c)) 14
    | _, _, _ => .reject .endOfInput
  | .clSym t noPrev => decodeHuff t bs (clInstr noPrev)
  | .llSym t => decodeHuff t bs llInstr
  | .dSym t => decodeHuff t bs dInstr
  | .lzwCode width next prev =>
    match fieldM width bs with
    | none => .reject .endOfInput
    | some c => .instr (decodeLzw next prev c) width
  | .rlByte => decodeByte bs decodeRl
  | .hexChar ws last => decodeByte bs (decodeHex ws last)
  | .a85Char ws => decodeByte bs (decodeA85 ws)
  | .pngRow implied => decodeByte bs fun tag => decodeTag ((implied.map (BitVec.ofNat 8)).getD tag)
  | .tiffRow => .instr .tiffRow 0
  | .faxEol strict =>
    match leadingZeros bs with
    | none => .reject .endOfInput
    | some z =>
      if z = 11 ∨ (11 ≤ z ∧ strict = false) then .instr (.faxEol (z - 11)) (z + 1) else .reject .noCode
  | .faxMode =>
    match readCode (faxLook faxModeTab) 7 0 0 bs with
    | .hit i n => .instr i n
    | .noCode => .instr (.faxModeIllegal (BitVec.ofNat 1 (natM (bs.take 7)))) 7
    | .short => .reject .endOfInput
  | .faxRun c =>
    match readCode (faxLook (faxRunTab c)) 13 0 0 bs with
    | .hit i n => .instr i n
    | .noCode => .instr (.faxRunIllegal (BitVec.ofNat 13 (natM (bs.take 13)))) 13
    | .short => .reject .endOfInput

/-! ## Encoding -/

/-- The slot of a name: the name padded with 0x00 to 32 bytes (R38). -/
def padSlot (name : Bytes) : Bytes := name ++ List.replicate (32 - name.length) 0

/-- The slot bytes of a filter-name instruction (R91). -/
def encodeSlot : Instr → Option Bytes
  | .flateDecode => (filterNames[0]?).map padSlot
  | .asciiHexDecode => (filterNames[1]?).map padSlot
  | .ascii85Decode => (filterNames[2]?).map padSlot
  | .lzwDecode => (filterNames[3]?).map padSlot
  | .runLengthDecode => (filterNames[4]?).map padSlot
  | .dctDecode => (filterNames[5]?).map padSlot
  | .ccittFaxDecode => (filterNames[6]?).map padSlot
  | .jbig2Decode => (filterNames[7]?).map padSlot
  | .fnameUnknown slot => some slot
  | _ => none

/-- The value of CTRL that is a command (R90), its ignored bits 0. -/
def encodeCmd : Instr → Option Nat
  | .decodeStream => some 0x01
  | .decodeStreamOpt => some 0x11
  | .ccittDecode => some 0x21
  | .ccittGray => some 0x31
  | .ack => some 0x02
  | _ => none

/-- The value of PREDICTOR that selects a predictor instruction (R93). -/
def encodePred : Instr → Option Nat
  | .predNone => some 1
  | .predTiff => some 2
  | .predPngNone => some 10
  | .predPngSub => some 11
  | .predPngUp => some 12
  | .predPngAvg => some 13
  | .predPngPaeth => some 14
  | .predPngOpt => some 15
  | .predIllegal p => some p.toNat
  | _ => none

/-- The number of a ladder strategy (R94). -/
def strategyNumber : Instr → Option Nat
  | .flateS1 => some 1
  | .flateS2 => some 2
  | .flateS3 => some 3
  | .flateS4 => some 4
  | .flateS5 => some 5
  | .flateS6 => some 6
  | .flateS7 => some 7
  | _ => none

/-- The header bits of a block (R96). -/
def encodeBlk : Instr → Option (List Bool)
  | .blkStored f => some [f, false, false]
  | .blkFixed f => some [f, true, false]
  | .blkDynamic f => some [f, false, true]
  | .blkReserved f => some [f, true, true]
  | _ => none

/-- A code-length symbol and its extra bits (R97). -/
def clCode (noPrev : Bool) : Instr → Option (Nat × List Bool)
  | .clLen l => some (l.toNat, [])
  | .clCopy x => if noPrev then (if x = 0 then some (16, []) else none) else some (16, bitsL 2 x.toNat)
  | .clZero3 x => some (17, bitsL 3 x.toNat)
  | .clZero11 x => some (18, bitsL 7 x.toNat)
  | _ => none

/-- A literal/length symbol and its extra bits (R98, R203). -/
def llCode : Instr → Option (Nat × List Bool)
  | .lit b => some (b.toNat, [])
  | .eob => some (256, [])
  | .len257 => some (257, [])
  | .len258 => some (258, [])
  | .len259 => some (259, [])
  | .len260 => some (260, [])
  | .len261 => some (261, [])
  | .len262 => some (262, [])
  | .len263 => some (263, [])
  | .len264 => some (264, [])
  | .len265 x => some (265, bitsL 1 x.toNat)
  | .len266 x => some (266, bitsL 1 x.toNat)
  | .len267 x => some (267, bitsL 1 x.toNat)
  | .len268 x => some (268, bitsL 1 x.toNat)
  | .len269 x => some (269, bitsL 2 x.toNat)
  | .len270 x => some (270, bitsL 2 x.toNat)
  | .len271 x => some (271, bitsL 2 x.toNat)
  | .len272 x => some (272, bitsL 2 x.toNat)
  | .len273 x => some (273, bitsL 3 x.toNat)
  | .len274 x => some (274, bitsL 3 x.toNat)
  | .len275 x => some (275, bitsL 3 x.toNat)
  | .len276 x => some (276, bitsL 3 x.toNat)
  | .len277 x => some (277, bitsL 4 x.toNat)
  | .len278 x => some (278, bitsL 4 x.toNat)
  | .len279 x => some (279, bitsL 4 x.toNat)
  | .len280 x => some (280, bitsL 4 x.toNat)
  | .len281 x => some (281, bitsL 5 x.toNat)
  | .len282 x => some (282, bitsL 5 x.toNat)
  | .len283 x => some (283, bitsL 5 x.toNat)
  | .len284 x => some (284, bitsL 5 x.toNat)
  | .len285 => some (285, [])
  | .llIllegal x => some (286 + x.toNat, [])
  | _ => none

/-- A distance symbol and its extra bits (R98, R203). -/
def dCode : Instr → Option (Nat × List Bool)
  | .dist0 => some (0, [])
  | .dist1 => some (1, [])
  | .dist2 => some (2, [])
  | .dist3 => some (3, [])
  | .dist4 x => some (4, bitsL 1 x.toNat)
  | .dist5 x => some (5, bitsL 1 x.toNat)
  | .dist6 x => some (6, bitsL 2 x.toNat)
  | .dist7 x => some (7, bitsL 2 x.toNat)
  | .dist8 x => some (8, bitsL 3 x.toNat)
  | .dist9 x => some (9, bitsL 3 x.toNat)
  | .dist10 x => some (10, bitsL 4 x.toNat)
  | .dist11 x => some (11, bitsL 4 x.toNat)
  | .dist12 x => some (12, bitsL 5 x.toNat)
  | .dist13 x => some (13, bitsL 5 x.toNat)
  | .dist14 x => some (14, bitsL 6 x.toNat)
  | .dist15 x => some (15, bitsL 6 x.toNat)
  | .dist16 x => some (16, bitsL 7 x.toNat)
  | .dist17 x => some (17, bitsL 7 x.toNat)
  | .dist18 x => some (18, bitsL 8 x.toNat)
  | .dist19 x => some (19, bitsL 8 x.toNat)
  | .dist20 x => some (20, bitsL 9 x.toNat)
  | .dist21 x => some (21, bitsL 9 x.toNat)
  | .dist22 x => some (22, bitsL 10 x.toNat)
  | .dist23 x => some (23, bitsL 10 x.toNat)
  | .dist24 x => some (24, bitsL 11 x.toNat)
  | .dist25 x => some (25, bitsL 11 x.toNat)
  | .dist26 x => some (26, bitsL 12 x.toNat)
  | .dist27 x => some (27, bitsL 12 x.toNat)
  | .dist28 x => some (28, bitsL 13 x.toNat)
  | .dist29 x => some (29, bitsL 13 x.toNat)
  | .dIllegal x => some (30 + x.toNat, [])
  | _ => none

/-- A symbol of a Huffman table with its extra bits: the code, then the extra bits (R203). -/
def encodeHuff (t : HuffTable) (s : Option (Nat × List Bool)) : Option (List Bool) :=
  s.bind fun (sym, extra) => (huffCode t sym).map (· ++ extra)

/-- The value of an LZW code (R99), where the state admits the instruction. -/
def encodeLzw (next : Nat) (prev : Bool) : Instr → Option Nat
  | .lzwLit b => some b.toNat
  | .lzwClear => some 256
  | .lzwEod => some 257
  | .lzwRef c => if c.toNat < next then some c.toNat else none
  | .lzwKwkwk => if prev && decide (258 ≤ next) then some next else none
  | .lzwIllegal c => if next < c.toNat ∨ (next = c.toNat ∧ prev = false) then some c.toNat else none
  | _ => none

/-- The length byte of a run (R100). -/
def encodeRl : Instr → Option Byte
  | .rlLiteral n => some (BitVec.ofNat 8 n.toNat)
  | .rlEod => some 128
  | .rlRepeat n => some (BitVec.ofNat 8 (128 + n.toNat))
  | _ => none

/-- The byte of an ASCIIHex character (R101), where the context admits it. -/
def encodeHex (ws : Bytes) (last : Bool) : Instr → Option Byte
  | .hexWs c => if ws.contains c then some c else none
  | .hexDigit c => if ws.contains c then none else some c
  | .hexEod => if ws.contains 0x3E || !last then none else some 0x3E
  | .hexIllegal c => if ws.contains c || (decide (c = 0x3E) && last) then none else some c
  | _ => none

/-- The byte of an ASCII85 character (R102), where the whitespace set admits it. -/
def encodeA85 (ws : Bytes) : Instr → Option Byte
  | .a85Ws c => if ws.contains c then some c else none
  | .a85Digit c => if ws.contains c then none else some c
  | .a85Z => if ws.contains 0x7A then none else some 0x7A
  | .a85Term => if ws.contains 0x7E then none else some 0x7E
  | .a85Illegal c => if ws.contains c then none else some c
  | _ => none

/-- The tag byte of a PNG row (R103). -/
def encodeTag : Instr → Option Byte
  | .pngNone => some 0
  | .pngSub => some 1
  | .pngUp => some 2
  | .pngAverage => some 3
  | .pngPaeth => some 4
  | .pngTagIllegal tag => some tag
  | _ => none

/-- The tag byte of a PNG row where the predictor implies a tag: only the implied tag's instruction can stand there
(R328). -/
def encodePngRow (implied : Option Nat) (i : Instr) : Option Byte :=
  match implied with
  | none => encodeTag i
  | some k => (encodeTag i).filter fun tag => decide (tag = BitVec.ofNat 8 k)

/-- `v` in `n` bits, most significant first, where it fits. -/
def encodeField (n v : Nat) : Option (List Bool) := if v < 2 ^ n then some (bitsM n v) else none

/-- The bits of an instruction in a format, in the order the format's engine reads them; `none` where the instruction
is not one of the format, or not one the context admits. -/
def encode (f : Format) (i : Instr) : Option (List Bool) :=
  match f with
  | .cmd => (encodeCmd i).map (bitsL 64)
  | .fname => (encodeSlot i).map streamL
  | .pred => (encodePred i).map (bitsL 32)
  | .strategy n => if strategyNumber i = some n then some [] else none
  | .zlibHdr =>
    match i with
    | .zlibHdr cmf flg => some (bitsL 8 cmf.toNat ++ bitsL 8 flg.toNat)
    | _ => none
  | .zlibTrailer =>
    match i with
    | .zlibTrailer v => some ([24, 16, 8, 0].flatMap fun k => bitsL 8 (v.toNat / 2 ^ k))
    | _ => none
  | .deflateBlk => encodeBlk i
  | .dynHdr =>
    match i with
    | .dynHdr l d c => some (bitsL 5 l.toNat ++ bitsL 5 d.toNat ++ bitsL 4 c.toNat)
    | _ => none
  | .clSym t noPrev => encodeHuff t (clCode noPrev i)
  | .llSym t => encodeHuff t (llCode i)
  | .dSym t => encodeHuff t (dCode i)
  | .lzwCode width next prev => (encodeLzw next prev i).bind (encodeField width)
  | .rlByte => (encodeRl i).map fun c => bitsM 8 c.toNat
  | .hexChar ws last => (encodeHex ws last i).map fun c => bitsM 8 c.toNat
  | .a85Char ws => (encodeA85 ws i).map fun c => bitsM 8 c.toNat
  | .pngRow implied => (encodePngRow implied i).map fun c => bitsM 8 c.toNat
  | .tiffRow => if i = .tiffRow then some [] else none
  | .faxEol strict =>
    match i with
    | .faxEol fill => if strict && decide (fill ≠ 0) then none else some (List.replicate (fill + 11) false ++ [true])
    | _ => none
  | .faxMode =>
    match i with
    | .faxModeIllegal x => some (bitsM 7 x.toNat)
    | _ => faxBits faxModeTab i
  | .faxRun c =>
    match i with
    | .faxRunIllegal code =>
      match readCode (faxLook (faxRunTab c)) 13 0 0 (bitsM 13 code.toNat) with
      | .noCode => some (bitsM 13 code.toNat)
      | _ => none
    | _ => faxBits (faxRunTab c) i

/-! ## Words of the opcode table -/

/-- Does the format's engine read the most significant bit of a byte first (R62, R63)? -/
def Format.msbFirst : Format → Bool
  | .lzwCode _ _ _ | .rlByte | .hexChar _ _ | .a85Char _ | .pngRow _ | .faxEol _ | .faxMode | .faxRun _ => true
  | _ => false

/-- The bits of a byte sequence in the order the format's engine reads them. -/
def Format.stream (f : Format) (b : Bytes) : List Bool := if f.msbFirst then streamM b else streamL b

/-- The format in which a bare table word of `nbits` bits is read. The spec reads one byte in many formats, by context;
a bare word has none, so one is chosen for each word (log 13). -/
def tableFormat (nbits w : Nat) : Option Format :=
  if nbits = 8 then
    if [0x01, 0x02, 0x11, 0x21, 0x31].contains w then some .cmd
    else if [0x03, 0x04].contains w then some (.pngRow none)
    else if (faxLook (faxRunTab .white) 8 w).isSome then some (.faxRun .white)
    else if (faxLook (faxRunTab .black) 8 w).isSome then some (.faxRun .black)
    else some .rlByte
  else if nbits = 16 then some .zlibHdr
  else if nbits = 32 then some .pred
  else if nbits = 64 then some .cmd
  else if nbits = 256 then some .fname
  else none

/-- The bytes of a table word, the first at the lowest address, and the zero bytes after it. -/
def tableBytes (nbits w : Nat) : Bytes :=
  (List.range (nbits / 8)).map (fun k => BitVec.ofNat 8 (w / 256 ^ k)) ++ List.replicate 32 0

/-- The instruction the decoder reads from a word of the opcode table. -/
def decodeTableWord (nbits w : Nat) : Option Instr :=
  match tableFormat nbits w with
  | none => none
  | some f =>
    match decode f (f.stream (tableBytes nbits w)) with
    | .instr i _ => some i
    | .reject _ => none

end Sys2Proof
end

