-- ==== Sys2Proof/Machine/State.lean ====
section
/-! DEFINITION. The state of the block (10_state.md), as plain data, and its value after reset. -/

namespace Sys2Proof.Machine

open Sys2Proof

/-! ## Host-visible registers -/

/-- `STATUS.STATE` (R23). -/
inductive RunState where
  | idle | busy | done | error
deriving DecidableEq, Repr

/-- `STATUS.ECLASS` (R23, R420). -/
inductive ErrClass where
  | none | unsupportedFilter | decodeError | bomb
deriving DecidableEq, Repr

/-- `STATUS` (R23), field by field. Its bits without a name read as 0 and are no state. -/
structure Status where
  state : RunState
  eclass : ErrClass
  ecode : BitVec 8
  /-- Its low `Config.nfiltBits` bits: 4 at the default NFILT_MAX. -/
  estage : Word
  efilt : BitVec 4
  flateStep : BitVec 3
  flatePartial : Bool
  lzwFallback : Bool
  ccittRetry : Bool
  ccittWhite : Bool
deriving DecidableEq, Repr

/-- The registers that describe a job (R26 to R31). -/
structure Descriptor where
  /-- Its low `Config.nfiltBits` bits: 4 at the default NFILT_MAX (R26, decision D4). -/
  nfilt : Word
  dpValid : BitVec 1
  predictor : BitVec 32
  columns : BitVec 32
  colors : BitVec 32
  bpc : BitVec 32
  secValid : BitVec 1
  maxRatio : BitVec 32
  maxSize : Word
  cColumns : BitVec 32
  cRows : BitVec 32
  cK : BitVec 32
  /-- Bit 0 ROWS_VALID, 1 BLACK_IS_1, 2 END_OF_LINE, 3 ENCODED_BYTE_ALIGN, 4 END_OF_BLOCK (R30). -/
  cFlags : BitVec 5
deriving DecidableEq, Repr

/-- The operations of `CTRL.OP` (R22). -/
inductive Op where
  | decodeStream | decodeStreamOpt | ccittDecode | ccittGray
deriving DecidableEq, Repr

/-! ## Memory -/

/-- The three byte-addressed spaces (R40). -/
inductive Space where
  | flt | inp | out
deriving DecidableEq, Repr

/-- The bytes written in one address space, by address: addresses rise strictly, and no entry equals what an unlisted
address reads as. -/
abbrev Memory := List Host.Cell

/-! ## Job state -/

/-- The latch `J` (R35): the private copy of all a job reads. -/
structure Latch where
  op : Op
  input : Bytes
  /-- `J.FLT`: the slots 0 to `J.NFILT - 1`. -/
  flt : List Bytes
  desc : Descriptor
deriving DecidableEq, Repr

/-- The statuses of an inflate run (R191). -/
inductive IStatus where
  | ok | empty | eof | zhdrCheck | zhdrMethod | zhdrWindow | zhdrDict | btype | storedLen | tooMany | oversub
  | incomplete | badRepeat | noEob | badClsym | badLlsym | badDsym | dist | adler
deriving DecidableEq, Repr

/-- Which code the sequencer reads next: the place inside a stage that the pseudocode of files 40 to 47 implies
(log 1). -/
inductive Phase where
  /-- The stage boundary of a generic job (R133, R140, R141). -/
  | orchestrate
  /-- The next strategy of the Flate ladder (R162). -/
  | ladder
  | zlibHdr | zlibTrailer
  /-- A block header (R198). -/
  | block
  | dynHdr | clSym | llSym | dSym
  | hex | a85 | rl | lzw
  | tiffRow | pngRow
  /-- The whole of CCITT_GRAY (R360). -/
  | gray
  /-- The start of a CCITT_DECODE job (R351). -/
  | faxBegin
  /-- The start of a fax row (R385, R392). -/
  | faxRowStart
  /-- Looking for end-of-line codes (R386, R392). -/
  | faxEol
  | faxMode | faxRun
deriving DecidableEq, Repr

/-- What the run length being read is for (R395, R398). -/
inductive RunUse where
  /-- A run of a one-dimensional row (R398). -/
  | row1d
  /-- The first run of HORIZ (R395). -/
  | horiz1
  /-- The second run of HORIZ, after the transition `a1` (R395). -/
  | horiz2 (a1 : Nat)
deriving DecidableEq, Repr

/-- The LZW registers (R41). `TAB[c]` is `[c]` for `c < 256` and is `tab[c - 258]` for `258 ≤ c`. -/
structure LzwRegs where
  tab : List Bytes
  nextCode : Nat
  codeBits : Nat
  prev : Option Bytes
deriving DecidableEq, Repr

/-- The registers and variables of an inflate run (R42, R194, R198, R201, R204). -/
structure InflateRegs where
  /-- Was the run entered through `ZlibInflate`? -/
  zlib : Bool
  bfinal : Bool
  hlit : Nat
  hdist : Nat
  /-- The code lengths read so far. -/
  lens : List Nat
  clt : HuffTable
  ll : HuffTable
  dd : HuffTable
  /-- The length of the match whose distance comes next. -/
  matchLen : Nat
deriving DecidableEq, Repr

/-- The variables of the ladder (R162): the strategy, the offset of the scan, the two reported errors. -/
structure LadderRegs where
  step : Nat
  off : Nat
  e1 : IStatus
  e2 : IStatus
deriving DecidableEq, Repr

/-- The registers and variables of the predictor (R43, R327, R328). -/
structure PredRegs where
  prevRow : Bytes
  /-- The tag implied by PREDICTOR 10 to 14. -/
  implied : Option Nat
  /-- The index of the row being decoded. -/
  row : Nat
deriving DecidableEq, Repr

/-- The registers and variables of a fax attempt (R44, R351, R385, R391, R398, R399). -/
structure FaxRegs where
  /-- 1 or 2. -/
  attempt : Nat
  ref : List Nat
  a0 : Int
  colour : Colour
  rowsDone : List (List Nat)
  /-- The transitions of the row in progress. -/
  t : List Nat
  pos : Nat
  first : Bool
  /-- The EOL codes counted at this row start. -/
  eols : Nat
  /-- The make-up lengths read so far. -/
  total : Nat
  use : RunUse
deriving DecidableEq, Repr

/-- The private state of the codec run in progress. -/
structure Engine where
  /-- The input sequence `inp` of the run (R61). -/
  src : Bytes
  bytePos : Nat
  bitPos : Nat
  /-- The output of the run; of an inflate run, `OUTBUF`. -/
  out : Bytes
  hi : Option (BitVec 4)
  acc : Nat
  ngrp : Nat
  lzw : LzwRegs
  inflate : InflateRegs
  ladder : LadderRegs
  pred : PredRegs
  fax : FaxRegs
deriving DecidableEq, Repr

/-! ## The host -/

/-- One entry of the host's schedule: an access, or a step left to the block (log 2). -/
inductive Move where
  | pass
  | regWrite (offset : Nat) (v : Word)
  | regRead (offset : Nat)
  | memWrite (space : Space) (address : Nat) (b : Byte)
  | memRead (space : Space) (address : Nat)
  /-- The external reset (R460). -/
  | reset
deriving DecidableEq, Repr

/-! ## The state -/

/-- The whole state. The first four fields are the model's own; the others are the spec's (R21). -/
structure State where
  cfg : Config
  moves : List Move
  /-- What the host's last read returned. -/
  hostData : Word
  /-- How many free values were drawn. -/
  draws : Nat
  status : Status
  inLen : Word
  outLen : Word
  desc : Descriptor
  einfo0 : Word
  einfo1 : Word
  einfo2 : Word
  einfo3 : Word
  flt : Memory
  inp : Memory
  out : Memory
  stage : Nat
  cur : Bytes
  origLen : Nat
  j : Latch
  phase : Phase
  eng : Engine
deriving DecidableEq, Repr

/-- Why a step faults. -/
inductive Fault where
  /-- A host access to an address the space does not have (R40): FLT from 32 · NFILT_MAX, IN and OUT from a finite
  BUF_CAP. Raised by the host moves `memWrite` and `memRead`. Safe. -/
  | noSuchAddress (space : Space) (address : Nat)
deriving DecidableEq, Repr

/-- Why a step is refused. -/
inductive Refusal where
  /-- An instruction without a meaning. No arm of `exec` raises it. Safe. -/
  | notModelled (mnemonic : String)
  /-- A register access that is not 8-byte aligned: outside the interface (R66). Raised by the host moves `regWrite` and
  `regRead`. Safe. -/
  | misaligned (offset : Nat)
  /-- An aligned access to a REG offset above 0xA0 where the configuration has them outside the interface
(93_implementation_defined.md A.2, log 9). Raised by the host moves `regWrite` and `regRead`. Safe. -/
  | noSuchRegister (offset : Nat)
  /-- A host write to OUT, which only the block writes (R40). Raised by the host move `memWrite`. Safe. -/
  | outReadOnly (address : Nat)
deriving DecidableEq, Repr

/-! ## Reset -/

/-- STATUS = 0 (R47). -/
def Status.zero : Status where
  state := .idle
  eclass := .none
  ecode := 0
  estage := 0
  efilt := 0
  flateStep := 0
  flatePartial := false
  lzwFallback := false
  ccittRetry := false
  ccittWhite := false

/-- The descriptor registers after reset (R47). MAX_SIZE is 104857600 whatever LEN_BITS is, also below 27 bits, where
the value does not fit the bits R28 gives the register and the spec does not say which holds (DESIGN CHOICE, log 32). -/
def Descriptor.reset : Descriptor where
  nfilt := 0
  dpValid := 0
  predictor := 1
  columns := 1
  colors := 1
  bpc := 8
  secValid := 0
  maxRatio := 100
  maxSize := 104857600
  cColumns := 0
  cRows := 0
  cK := 0
  cFlags := 0

/-- The LZW registers as `Init` leaves them (R254). -/
def LzwRegs.init : LzwRegs where
  tab := []
  nextCode := 258
  codeBits := 9
  prev := none

/-- The variables of an inflate run before its first read (R193). -/
def InflateRegs.init (zlib : Bool) : InflateRegs where
  zlib := zlib
  bfinal := false
  hlit := 0
  hdist := 0
  lens := []
  clt := []
  ll := []
  dd := []
  matchLen := 0

/-- The registers of a fax attempt before its first row (R380). -/
def FaxRegs.init (attempt : Nat) : FaxRegs where
  attempt := attempt
  ref := []
  a0 := -1
  colour := .white
  rowsDone := []
  t := []
  pos := 0
  first := true
  eols := 0
  total := 0
  use := .row1d

/-- No codec is running: every private register at the value it is given when a run begins. -/
def Engine.empty : Engine where
  src := []
  bytePos := 0
  bitPos := 0
  out := []
  hi := none
  acc := 0
  ngrp := 0
  lzw := LzwRegs.init
  inflate := InflateRegs.init false
  ladder := ⟨0, 0, .ok, .ok⟩
  pred := ⟨[], none, 0⟩
  fax := FaxRegs.init 1

/-- The machine after reset (R47, R460). The values of the private state, which R47 leaves unspecified, are the model's:
DESIGN CHOICE, unsafe (log 5). -/
def State.reset : State where
  cfg := Config.default
  moves := []
  hostData := 0
  draws := 0
  status := Status.zero
  inLen := 0
  outLen := 0
  desc := Descriptor.reset
  einfo0 := 0
  einfo1 := 0
  einfo2 := 0
  einfo3 := 0
  flt := []
  inp := []
  out := []
  stage := 0
  cur := []
  origLen := 0
  j := ⟨.decodeStream, [], [], Descriptor.reset⟩
  phase := .orchestrate
  eng := Engine.empty

end Sys2Proof.Machine
end

