-- ==== Sys2Proof/Machine/Flags.lean ====
section
/-! DEFINITION. The status word, the cause codes and the log flags (10_state.md R23, R37, 60_exceptions.md R421). The
block has no arithmetic condition codes (R37). -/

namespace Sys2Proof.Machine

open Sys2Proof

/-- The causes of an exception, each with the values it records (R421). -/
inductive Cause where
  | unsupported
  | hexBadChar (c : Byte)
  | a85BadChar (c : Byte)
  | a85ZMidgroup
  | a85LoneChar
  | a85Overflow
  | rlTruncLiteral (needed remaining : Nat)
  | rlTruncRepeat
  | lzwInvalidCode (c nextCode : Nat)
  | flateAllFailed (size : Nat) (e1 e2 : IStatus)
  | predRowMismatch (len row : Nat)
  | predBadTag (tag row : Nat)
  | predBadParams (predictor columns colors bpc : Nat)
  | bombRatio (n origLen limit : Nat)
  | bombSize (n origLen limit : Nat)
  | capExceeded (cap : Nat)
deriving DecidableEq, Repr

/-- The class of a cause (R421). -/
def causeClass : Cause → ErrClass
  | .unsupported => .unsupportedFilter
  | .bombRatio _ _ _ | .bombSize _ _ _ => .bomb
  | _ => .decodeError

/-- `ECODE` of a cause (R421). -/
def causeCode : Cause → BitVec 8
  | .unsupported => 0x01
  | .hexBadChar _ => 0x10
  | .a85BadChar _ => 0x20
  | .a85ZMidgroup => 0x21
  | .a85LoneChar => 0x22
  | .a85Overflow => 0x23
  | .rlTruncLiteral _ _ => 0x30
  | .rlTruncRepeat => 0x31
  | .lzwInvalidCode _ _ => 0x40
  | .flateAllFailed _ _ _ => 0x50
  | .predRowMismatch _ _ => 0x60
  | .predBadTag _ _ => 0x61
  | .predBadParams _ _ _ _ => 0x62
  | .bombRatio _ _ _ => 0x70
  | .bombSize _ _ _ => 0x71
  | .capExceeded _ => 0x7F

/-- The number of an inflate status (R191). -/
def istatusNumber : IStatus → Nat
  | .ok => 0
  | .empty => 1
  | .eof => 2
  | .zhdrCheck => 3
  | .zhdrMethod => 4
  | .zhdrWindow => 5
  | .zhdrDict => 6
  | .btype => 7
  | .storedLen => 8
  | .tooMany => 9
  | .oversub => 10
  | .incomplete => 11
  | .badRepeat => 12
  | .noEob => 13
  | .badClsym => 14
  | .badLlsym => 15
  | .badDsym => 16
  | .dist => 17
  | .adler => 18

/-- The values a cause records in EINFO0, EINFO1, EINFO2 and EINFO3; one not listed by R421 is 0. -/
def causeInfo : Cause → Nat × Nat × Nat × Nat
  | .hexBadChar c => (c.toNat, 0, 0, 0)
  | .a85BadChar c => (c.toNat, 0, 0, 0)
  | .rlTruncLiteral needed remaining => (needed, remaining, 0, 0)
  | .lzwInvalidCode c nextCode => (c, nextCode, 0, 0)
  | .flateAllFailed size e1 e2 => (size, istatusNumber e1, istatusNumber e2, 0)
  | .predRowMismatch len row => (len, row, 0, 0)
  | .predBadTag tag row => (tag, row, 0, 0)
  | .predBadParams predictor columns colors bpc => (predictor, columns, colors, bpc)
  | .bombRatio n origLen limit => (n, origLen, limit, n / max 1 origLen)
  | .bombSize n origLen limit => (n, origLen, limit, 0)
  | .capExceeded cap => (cap, 0, 0, 0)
  | .unsupported | .a85ZMidgroup | .a85LoneChar | .a85Overflow | .rlTruncRepeat => (0, 0, 0, 0)

/-- The value of `STATUS.STATE` (R23). -/
def runStateBits : RunState → BitVec 2
  | .idle => 0
  | .busy => 1
  | .done => 2
  | .error => 3

/-- The value of `STATUS.ECLASS` (R23). -/
def errClassBits : ErrClass → BitVec 2
  | .none => 0
  | .unsupportedFilter => 1
  | .decodeError => 2
  | .bomb => 3

/-- `STATUS` as a register read returns it (R23), with an `ESTAGE` of `w` bits: the fields in place, every other bit 0.
At the default NFILT_MAX `w` is 4 and the places are those of R23; a wider `ESTAGE` moves the fields above it up
(DESIGN CHOICE, log 8). -/
def statusWord (w : Nat) (st : Status) : Word :=
  BitVec.ofNat 64 (runStateBits st.state).toNat ||| BitVec.ofNat 64 (errClassBits st.eclass).toNat <<< 2
    ||| BitVec.ofNat 64 st.ecode.toNat <<< 8
    ||| BitVec.ofNat 64 (st.estage.toNat % 2 ^ w) <<< 16
    ||| BitVec.ofNat 64 st.efilt.toNat <<< (16 + w) ||| BitVec.ofNat 64 st.flateStep.toNat <<< (20 + w)
    ||| BitVec.ofNat 64 st.flatePartial.toNat <<< (23 + w) ||| BitVec.ofNat 64 st.lzwFallback.toNat <<< (24 + w)
    ||| BitVec.ofNat 64 st.ccittRetry.toNat <<< (25 + w) ||| BitVec.ofNat 64 st.ccittWhite.toNat <<< (26 + w)

/-- The bits of `STATUS` that have a name, `STATE` apart (R23): 2, 3 and 8 to 30, for an `ESTAGE` of 4 bits. -/
def statusNamedMask (w : Nat) : Word := BitVec.ofNat 64 (2 ^ (27 + w) - 2 ^ 8 + 0xC)

/-- `STATUS` as a read while BUSY returns it (R49): `STATE` is real, the other named bits are those of the free value
`free`, the bits without a name are 0. -/
def busyStatusWord (w : Nat) (free : Word) : Word :=
  BitVec.ofNat 64 (runStateBits .busy).toNat ||| (free &&& statusNamedMask w)

/-- `Log(step, partial)` (R163). -/
def logFlate (step : Nat) (isPartial : Bool) (s : State) : State :=
  { s with status := { s.status with
      flateStep := BitVec.ofNat 3 step, flatePartial := s.status.flatePartial || isPartial } }

/-- Set `LZW_FALLBACK` (R253). -/
def setLzwFallback (s : State) : State := { s with status := { s.status with lzwFallback := true } }

/-- Set `CCITT_RETRY` (R356). -/
def setCcittRetry (s : State) : State := { s with status := { s.status with ccittRetry := true } }

/-- Set `CCITT_WHITE` (R352, R357). -/
def setCcittWhite (s : State) : State := { s with status := { s.status with ccittWhite := true } }

end Sys2Proof.Machine
end

