-- ==== Sys2Proof/Machine/Operands.lean ====
section
/-! DEFINITION. What the instructions compute their operands and results with: Huffman construction, checksums, row
geometry, reference positions, bitmaps. Pure functions of their arguments. -/

namespace Sys2Proof.Machine

open Sys2Proof

/-! ## Huffman codes (R202) -/

/-- The alphabets of `BuildCode` (R202). -/
inductive CodeKind where
  | cl | ll | d
deriving DecidableEq, Repr

/-- `count[l]` (R202): how many symbols have the length `l`; `count[0]` counts as 0. -/
def lenCount (lengths : List Nat) (l : Nat) : Nat := if l = 0 then 0 else lengths.count l

/-- `left` after the lengths 1 to `l` (R202), or `none` once it was negative. -/
def codeLeft (lengths : List Nat) : Nat → Option Nat
  | 0 => some 1
  | l + 1 =>
    match codeLeft lengths l with
    | none => none
    | some left => if 2 * left < lenCount lengths (l + 1) then none else some (2 * left - lenCount lengths (l + 1))

/-- The longest code length in use, 0 if none (R202). -/
def maxLen (lengths : List Nat) : Nat := lengths.foldl max 0

/-- The code of the first symbol of length `l` (R202): `next[l]` before any symbol is placed. -/
def firstCode (lengths : List Nat) : Nat → Nat
  | 0 => 0
  | l + 1 => (firstCode lengths l + lenCount lengths l) * 2

/-- The symbols of length `l`, ascending, with consecutive codes from `code` on (R202); `sym` is the symbol the list of
lengths begins at. -/
def codesOfLength (l : Nat) : (code sym : Nat) → List Nat → HuffTable
  | _, _, [] => []
  | code, sym, x :: xs =>
    if x = l then ⟨l, code, sym⟩ :: codesOfLength l (code + 1) (sym + 1) xs
    else codesOfLength l code (sym + 1) xs

/-- The canonical table of a set of code lengths (R202). -/
def canonicalTable (lengths : List Nat) : HuffTable :=
  (List.range 15).flatMap fun k => codesOfLength (k + 1) (firstCode lengths (k + 1)) 0 lengths

/-- `BuildCode` (R202). -/
def buildCode (kind : CodeKind) (lengths : List Nat) : Except IStatus HuffTable :=
  match codeLeft lengths 15 with
  | none => .error .oversub
  | some left =>
    if maxLen lengths = 0 then (if kind = .cl then .error .incomplete else .ok [])
    else if 0 < left ∧ (kind = .cl ∨ maxLen lengths ≠ 1) then .error .incomplete
    else .ok (canonicalTable lengths)

/-- The code lengths of the fixed literal/length code (R200). -/
def fixedLlLengths : List Nat :=
  List.replicate 144 8 ++ List.replicate 112 9 ++ List.replicate 24 7 ++ List.replicate 8 8

/-- The code lengths of the fixed distance code (R200). -/
def fixedDLengths : List Nat := List.replicate 32 5

/-- `FIXED_LL` (R200). -/
def fixedLl : HuffTable := canonicalTable fixedLlLengths

/-- `FIXED_DD` (R200). -/
def fixedDd : HuffTable := canonicalTable fixedDLengths

/-- `ORDER` (R201): the code-length symbols in the order their lengths are sent. -/
def clOrder : List Nat := [16, 17, 18, 0, 8, 7, 9, 6, 10, 5, 11, 4, 12, 3, 13, 2, 14, 1, 15]

/-- Read `n` three-bit lengths (R201). -/
def readTriples : (n : Nat) → List Bool → Option (List Nat)
  | 0, _ => some []
  | n + 1, bs =>
    match fieldL 3 bs with
    | none => none
    | some v => (readTriples n (bs.drop 3)).map (v :: ·)

/-- `cl[0..18]` (R201): the length of each code-length symbol, from the lengths in the order sent. -/
def clLengths (triples : List Nat) : List Nat :=
  (List.range 19).map fun sym => (((clOrder.zip triples).find? fun p => p.1 == sym).map (·.2)).getD 0

/-! ## Inflate -/

/-- `CheckHeader` (R195): the status of the first check that fails. -/
def zlibHeaderError (cmf flg : Byte) : Option IStatus :=
  if (cmf.toNat * 256 + flg.toNat) % 31 ≠ 0 then some .zhdrCheck
  else if cmf.toNat % 16 ≠ 8 then some .zhdrMethod
  else if 7 < cmf.toNat / 16 then some .zhdrWindow
  else if flg.toNat.testBit 5 then some .zhdrDict
  else none

/-- `Adler32` (R205). -/
def adler32 (o : Bytes) : Nat :=
  let r := o.foldl (fun (p : Nat × Nat) x => ((p.1 + x.toNat) % 65521, (p.2 + (p.1 + x.toNat) % 65521) % 65521)) (1, 0)
  r.2 * 65536 + r.1

/-- A match copy (R204) on the reversed output, byte by byte: `OUTBUF[len - dist]` is the byte `dist - 1` places from the
head. -/
def copyRev (dist : Nat) : (length : Nat) → Bytes → Bytes
  | 0, r => r
  | n + 1, r => copyRev dist n (r.getD (dist - 1) 0 :: r)

/-- A match copy (R204): append, `length` times, the byte that stands `dist` bytes before the end. -/
def copyMatch (dist length : Nat) (o : Bytes) : Bytes := (copyRev dist length o.reverse).reverse

/-- The six tokens of `HasTextOp` (R171). -/
def textOps : List (Byte × Byte) :=
  [(0x42, 0x54), (0x45, 0x54), (0x54, 0x6A), (0x54, 0x4A), (0x54, 0x6D), (0x54, 0x64)]

/-- `HasTextOp` (R171). -/
def hasTextOp : Bytes → Bool
  | a :: b :: rest => textOps.contains (a, b) || hasTextOp (b :: rest)
  | _ => false

/-- `Err(o, st)` (R162): the status the ladder reports of a strategy that failed. -/
def ladderError (st : IStatus) : IStatus := if st = .ok then .empty else st

/-- The offset after `off` in the scan of FLATE_S7 (R170): 0 and 2 were already tried. -/
def nextOffset (off : Nat) : Nat := if off = 1 then 3 else off + 1

/-- `b'` of FLATE_S6 (R169): the low four bits of the first byte become 8. -/
def repairHeader : Bytes → Bytes
  | [] => []
  | c :: rest => BitVec.ofNat 8 (c.toNat / 16 * 16 + 8) :: rest

/-- Is FLATE_S6 attempted (R162)? -/
def needsRepair : Bytes → Bool
  | [] => false
  | c :: _ => decide (c.toNat % 16 ≠ 8)

/-! ## LZW -/

/-- `TAB[c]` (R41, R254). -/
def lzwString (r : LzwRegs) (c : Nat) : Option Bytes :=
  if c < 256 then some [BitVec.ofNat 8 c]
  else if 258 ≤ c ∧ c < r.nextCode then r.tab[c - 258]?
  else none

/-- `CODE_BITS` as `NextCode` widens it before the read (R255, R260). -/
def widenCode (maxBits : Nat) (r : LzwRegs) : LzwRegs :=
  if r.nextCode = 2 ^ r.codeBits - 1 ∧ r.codeBits < maxBits then { r with codeBits := r.codeBits + 1 } else r

/-- `Insert(s)`, then `PREV <- s` (R258, R252). -/
def lzwInsert (str : Bytes) (r : LzwRegs) : LzwRegs :=
  match r.prev with
  | none => { r with prev := some str }
  | some p =>
    if r.nextCode < 4096 then
      { r with tab := r.tab ++ [p ++ str.take 1], nextCode := r.nextCode + 1, prev := some str }
    else { r with prev := some str }

/-! ## ASCII85 -/

/-- The first `k` of the four bytes of a group value, most significant first (R291). -/
def groupBytes (k v : Nat) : Bytes :=
  ([BitVec.ofNat 8 (v / 2 ^ 24), BitVec.ofNat 8 (v / 2 ^ 16), BitVec.ofNat 8 (v / 2 ^ 8), BitVec.ofNat 8 v] : Bytes).take k

/-- The value of a partial group padded with digits 84 (R293): `n` digits are missing. -/
def padGroup : (n acc : Nat) → Nat
  | 0, acc => acc
  | n + 1, acc => padGroup n (85 * acc + 84)

/-! ## Predictor (R321 to R335) -/

/-- `PBR` (R321). -/
def pixelBytes (d : Descriptor) : Nat := (d.columns.toNat * d.colors.toNat * d.bpc.toNat + 7) / 8

/-- `BPP` (R321). -/
def bytesPerPixel (d : Descriptor) : Nat := d.colors.toNat

/-- Is the geometry legal (R322)? -/
def legalGeometry (d : Descriptor) : Bool :=
  decide (d.columns.toNat ≠ 0) && decide (d.colors.toNat ≠ 0) && decide (d.bpc.toNat ≠ 0)

/-- The byte at an index of a sequence, 0 before its start: the neighbour `back` bytes to the left of `i` (R335). -/
def leftOf (row : Bytes) (i back : Nat) : Byte := if back ≤ i then row.getD (i - back) 0 else 0

/-- `Paeth` (R334), in integers. -/
def paeth (a b c : Nat) : Nat :=
  let p : Int := (a : Int) + b - c
  let pa := (p - a).natAbs
  let pb := (p - b).natAbs
  let pc := (p - c).natAbs
  if pa ≤ pb ∧ pa ≤ pc then a else if pb ≤ pc then b else c

/-- `Pred(tag, i, row)` (R329 to R333) as a function of the three neighbours of R335. -/
def pngPred (tag : Nat) (left up upLeft : Byte) : Nat :=
  match tag with
  | 0 => 0
  | 1 => left.toNat
  | 2 => up.toNat
  | 3 => (left.toNat + up.toNat) / 2
  | _ => paeth left.toNat up.toNat upLeft.toNat

/-- One PNG row, left to right (R327): `done` is the part already decoded, the list is what is left of `enc`. -/
def pngDecodeRow (tag bpp : Nat) (prevRow : Bytes) : (done : Bytes) → Bytes → Bytes
  | done, [] => done
  | done, e :: es =>
    pngDecodeRow tag bpp prevRow
      (done ++ [e + BitVec.ofNat 8 (pngPred tag (leftOf done done.length bpp) (prevRow.getD done.length 0)
        (leftOf prevRow done.length bpp))]) es

/-- One TIFF row, left to right (R325): the first `colors` bytes are copied. -/
def tiffDecodeRow (colors : Nat) : (done : Bytes) → Bytes → Bytes
  | done, [] => done
  | done, e :: es => tiffDecodeRow colors (done ++ [e + leftOf done done.length colors]) es

/-! ## Fax (R397) and CCITT (R356, R359 to R361) -/

/-- The other colour. -/
def otherColour : Colour → Colour
  | .white => .black
  | .black => .white

/-- `FindB` (R397) from index `i` of `REF` on: `b1` and `b2`. -/
def findBFrom (columns : Nat) (a0 : Int) (colour : Colour) : (i : Nat) → List Nat → Nat × Nat
  | _, [] => (columns, columns)
  | i, r :: rs =>
    if a0 < (r : Int) ∧ (decide (i % 2 = 1) = decide (colour = .black)) then (r, rs.headD columns)
    else findBFrom columns a0 colour (i + 1) rs

/-- `FindB` (R397). -/
def findB (columns : Nat) (f : FaxRegs) : Nat × Nat := findBFrom columns f.a0 f.colour 0 f.ref

/-- `max(A0, 0)` (R395, R396). -/
def a0Pos (f : FaxRegs) : Nat := f.a0.toNat

/-- Is pixel `x` of a row black (R359)? The row begins white and changes colour at each transition; a position beyond
the width counts as the width. -/
def blackAt (columns x : Nat) : List Nat → Bool
  | [] => false
  | [s] => decide (min s columns ≤ x)
  | s :: e :: rest => (decide (min s columns ≤ x) && decide (x < min e columns)) || blackAt columns x rest

/-- Byte `k` of a bitmap row (R64, R359): pixel `8k + i` at bit `7 - i`, the padding bits 0. -/
def bitmapByte (columns : Nat) (t : List Nat) (k : Nat) : Byte :=
  BitVec.ofNat 8 (natM ((List.range 8).map fun i => decide (8 * k + i < columns) && blackAt columns (8 * k + i) t))

/-- `stride` (R359). -/
def bitmapStride (columns : Nat) : Nat := (columns + 7) / 8

/-- `RowsToBitmap` (R359): a row the engine did not deliver is white. -/
def rowsToBitmap (trs : List (List Nat)) (columns nrows : Nat) : Bytes :=
  (List.range nrows).flatMap fun r =>
    (List.range (bitmapStride columns)).map fun k => bitmapByte columns (trs.getD r []) k

/-- The inversion of BLACK_IS_1 (R361). -/
def invertBitmap (blackIs1 : Bool) (bm : Bytes) : Bytes := if blackIs1 then bm.map (· ^^^ 0xFF) else bm

/-- `StripLeadingZeros` (R356). -/
def stripLeadingZeros (b : Bytes) : Bytes := b.dropWhile (· = 0)

/-- The eight pixels of a bitmap byte as gray bytes, most significant bit first (R360). -/
def grayByte (v : Byte) : Bytes := (bitsM 8 v.toNat).map fun b => if b then 0x00 else 0xFF

/-- The grayscale expansion (R360). -/
def grayExpand (b : Bytes) : Bytes := b.flatMap grayByte

/-- `rows`, if present (R30, R351). -/
def ccittRows (d : Descriptor) : Option Nat := if d.cFlags.getLsbD 0 then some d.cRows.toNat else none

/-- BLACK_IS_1 (R30). -/
def blackIs1 (d : Descriptor) : Bool := d.cFlags.getLsbD 1

/-- END_OF_LINE (R30). -/
def endOfLine (d : Descriptor) : Bool := d.cFlags.getLsbD 2

/-- ENCODED_BYTE_ALIGN (R30). -/
def byteAlign (d : Descriptor) : Bool := d.cFlags.getLsbD 3

/-- Is the group 4 (R31, R354)? -/
def isGroup4 (d : Descriptor) : Bool := d.cK.getLsbD 31

/-- Are the tag bits of mixed Group 3 data read (R384)? -/
def readsTags (cfg : Config) (d : Descriptor) : Bool := cfg.g3TwoD && !isGroup4 d && decide (d.cK ≠ 0)

/-- What `FAX_ENGINE` is given (R353, R355). -/
def faxParams (d : Descriptor) : FaxParams where
  columns := d.cColumns.toNat
  rows := ccittRows d
  group4 := isGroup4 d
  k := d.cK
  endOfLine := endOfLine d
  byteAlign := byteAlign d
  endOfBlock := d.cFlags.getLsbD 4

/-- The contract of `FAX_ENGINE` (R353): in each row positions that do not fall, none beyond the columns, and at most
`rows` rows where `rows` is present. Where it is absent R353 gives no bound and R362 reckons with one row for each bit of
the input; the model asks no bound then (DESIGN CHOICE, log 24). -/
def meetsContract (p : FaxParams) (trs : List (List Nat)) : Bool :=
  (trs.all fun r => decide (r.Pairwise (· ≤ ·)) && r.all fun x => decide (x ≤ p.columns)) &&
    match p.rows with
    | none => true
    | some n => decide (trs.length ≤ n)

/-- The rows of an attempt of a `FAX_ENGINE` other than the reference engine (R353, R355). Every function that keeps the
contract is `Config.faxEngine` for some value of it, and is used as it is; an answer outside the contract, which no engine
of R353 gives, counts as no rows (DESIGN CHOICE, log 24). -/
def faxEngineRows (b : Bytes) (p : FaxParams) : List (List Nat) :=
  if meetsContract p (Config.faxEngine b p) then Config.faxEngine b p else []

end Sys2Proof.Machine
end

