-- ==== Sys2Proof/Machine/Ops.lean ====
section
/-! DEFINITION. The named operations over memory, registers and the job: reading and writing the address spaces, taking
an exception and returning from it, starting and finishing a job and a stage, and the steps that several instructions of
one codec share. -/

namespace Sys2Proof.Machine

open Sys2Proof

/-! ## Memory (R40, R60) -/

/-- What an address with no entry reads as: FLT is 0x00 after reset; a byte of IN or OUT that was never written has no
value (R47, log 4). -/
def unlisted : Space → Option Byte
  | .flt => some 0
  | .inp => none
  | .out => none

/-- The entry of an address. -/
def memGet : Memory → Nat → Option Byte
  | [], _ => none
  | (k, b) :: m, a => if k = a then some b else memGet m a

/-- Put an entry in its place. -/
def memInsert (a : Nat) (b : Byte) : Memory → Memory
  | [] => [(a, b)]
  | (k, c) :: m =>
    if a < k then (a, b) :: (k, c) :: m
    else if a = k then (a, b) :: m
    else (k, c) :: memInsert a b m

/-- Take an entry out. -/
def memErase (a : Nat) : Memory → Memory
  | [] => []
  | (k, c) :: m => if k = a then m else (k, c) :: memErase a m

/-- Read one byte of a space; `none` where the byte has no value. -/
def readByte (sp : Space) (m : Memory) (a : Nat) : Option Byte := (memGet m a).or (unlisted sp)

/-- Write one byte of a space, keeping the canonical form. -/
def writeByte (sp : Space) (m : Memory) (a : Nat) (b : Byte) : Memory :=
  if unlisted sp = some b then memErase a m else memInsert a b m

/-- The bytes of a sequence with their addresses, from `a` on. -/
def cellsFrom (a : Nat) (bs : Bytes) : Memory := (List.range' a bs.length).zip bs

/-- Write a byte sequence from an address on (R141), keeping the canonical form. -/
def writeBytes (sp : Space) (m : Memory) (a : Nat) (bs : Bytes) : Memory :=
  m.filter (fun c => decide (c.1 < a)) ++ (cellsFrom a bs).filter (fun c => decide (unlisted sp ≠ some c.2)) ++
    m.filter (fun c => decide (a + bs.length ≤ c.1))

/-- The canonical form: addresses rise strictly, and no entry equals what an unlisted address reads as. -/
def Memory.wf (sp : Space) : Memory → Bool
  | [] => true
  | (_, b) :: [] => decide (unlisted sp ≠ some b)
  | (k, b) :: (k', b') :: m =>
    decide (unlisted sp ≠ some b) && decide (k < k') && Memory.wf sp ((k', b') :: m)

/-- The memory of a space. -/
def spaceMem (s : State) : Space → Memory
  | .flt => s.flt
  | .inp => s.inp
  | .out => s.out

/-! ## Capacity (R423) -/

/-- Would `n` bytes exceed a finite `BUF_CAP`? -/
def overCap (cfg : Config) (n : Nat) : Bool :=
  match cfg.bufCap with
  | none => false
  | some c => decide (c < n)

/-! ## Taking an exception, and returning from it -/

/-- A stage number as the field `ESTAGE` holds it (R23, R26, decision D4). -/
def stageWord (cfg : Config) (stage : Nat) : Word := BitVec.ofNat 64 (stage % 2 ^ cfg.nfiltBits)

/-- Take the exception of a cause, raised by `unit` (R426): the working buffer and all codec state are discarded, the
error registers are written, STATE is written last. `unit` is the filter index of the failing stage's codec, 8 for the
predictor, 15 for none. STAGE is frozen. That ORIG_LEN and J stay too is the model's choice (DESIGN CHOICE, log
34); that CUR becomes empty is its reading of R426 against R133 (DEDUCED, log 11). -/
def raise (c : Cause) (unit : Nat) (s : State) : State :=
  { s with
    cur := []
    eng := Engine.empty
    phase := .orchestrate
    outLen := 0
    einfo0 := BitVec.ofNat 64 (causeInfo c).1
    einfo1 := BitVec.ofNat 64 (causeInfo c).2.1
    einfo2 := BitVec.ofNat 64 (causeInfo c).2.2.1
    einfo3 := BitVec.ofNat 64 (causeInfo c).2.2.2
    status := { s.status with
      state := .error
      eclass := causeClass c
      ecode := causeCode c
      estage := stageWord s.cfg s.stage
      efilt := BitVec.ofNat 4 unit
      flateStep := if unit = 0 then 0 else s.status.flateStep } }

/-- Return from a finished or failed job (R22, R428): STATE becomes IDLE and nothing else changes; ignored while IDLE
or BUSY. -/
def acknowledge (s : State) : State :=
  if s.status.state = .done ∨ s.status.state = .error then { s with status := { s.status with state := .idle } } else s

/-- `CAP_EXCEEDED` raised by a unit (R423). -/
def raiseCap (unit : Nat) (s : State) : State := raise (.capExceeded (s.cfg.bufCap.getD 0)) unit s

/-! ## Starting and finishing a job -/

/-- `J.IN` (R35): the first IN_LEN bytes of IN; a byte the host never wrote is drawn freely (R49). -/
def latchInput (s : State) : Bytes :=
  (List.range s.inLen.toNat).map fun a => (readByte .inp s.inp a).getD (Config.freeInByte s.draws a)

/-- Slot `i` of FLT (R38). -/
def fltSlot (s : State) (i : Nat) : Bytes :=
  (List.range 32).map fun k => (readByte .flt s.flt (32 * i + k)).getD 0

/-- The latch of R35. -/
def latch (op : Op) (s : State) : Latch where
  op := op
  input := latchInput s
  flt := (List.range s.desc.nfilt.toNat).map (fltSlot s)
  desc := s.desc

/-- Where the sequencer begins a job. -/
def firstPhase : Op → Phase
  | .decodeStream | .decodeStreamOpt => .orchestrate
  | .ccittDecode => .faxBegin
  | .ccittGray => .gray

/-- START (R48, R468): ignored while BUSY; else the latch, then the clearing of the result, then the job state. An input
longer than a finite BUF_CAP ends the job at once (R423). -/
def startJob (op : Op) (s : State) : State :=
  if s.status.state = .busy then s
  else
    let t : State :=
      { s with
        draws := s.draws + 1
        j := latch op s
        status := { Status.zero with state := .busy }
        outLen := 0
        einfo0 := 0
        einfo1 := 0
        einfo2 := 0
        einfo3 := 0
        stage := 0
        cur := latchInput s
        origLen := s.inLen.toNat
        phase := firstPhase op
        eng := Engine.empty }
    if overCap s.cfg s.inLen.toNat then raiseCap 15 t else t

/-- The low LEN_BITS bits of a length (R24, R25, R28). -/
def lenWord (cfg : Config) (n : Nat) : Word := BitVec.ofNat 64 (n % 2 ^ cfg.lenBits)

/-- The end of a job that succeeds (R141): the result goes to OUT and its length to OUT_LEN, and STATE becomes DONE. What
the private state holds between jobs is left open: STAGE, CUR, ORIG_LEN and J stay (DESIGN CHOICE, log 34), the codec
registers become initial (log 25). -/
def finishJob (result : Bytes) (s : State) : State :=
  { s with
    out := writeBytes .out s.out 0 result
    outLen := lenWord s.cfg result.length
    phase := .orchestrate
    eng := Engine.empty
    status := { s.status with state := .done } }

/-! ## Stages (R133 to R136, R140) -/

/-- The effective limits (R29). -/
def effLimits (j : Latch) : Nat × Nat :=
  if j.op = .decodeStreamOpt ∧ j.desc.secValid = 1 then (j.desc.maxRatio.toNat, j.desc.maxSize.toNat)
  else (Config.defaultMaxRatio, Config.defaultMaxSize)

/-- Does an output of `n` bytes exceed the ratio (R135)? -/
def ratioExceeded (cmp : RatioCmp) (n origLen maxRatio : Nat) : Bool :=
  decide (0 < maxRatio) &&
    match cmp with
    | .exact => decide (maxRatio * max 1 origLen < n)
    | .floor => decide (maxRatio < n / max 1 origLen)

/-- Does an output of `n` bytes exceed the size limit (R136)? -/
def sizeExceeded (n maxSize : Nat) : Bool := decide (0 < maxSize) && decide (maxSize < n)

/-- Advance to the next stage with `o` as the working buffer (R133, R140); the codec run is over. -/
def nextStage (o : Bytes) (s : State) : State :=
  { s with cur := o, stage := s.stage + 1, phase := .orchestrate, eng := Engine.empty }

/-- The end of a filter stage whose codec, filter `unit`, gave `o`: the ratio check, the size check, the next stage
(R133, R142). -/
def finishStage (unit : Nat) (o : Bytes) (s : State) : State :=
  if ratioExceeded s.cfg.ratioCmp o.length s.origLen (effLimits s.j).1 then
    raise (.bombRatio o.length s.origLen (effLimits s.j).1) unit s
  else if sizeExceeded o.length (effLimits s.j).2 then
    raise (.bombSize o.length s.origLen (effLimits s.j).2) unit s
  else nextStage o s

/-- A stage whose output is given whole: the capacity, then the end of the stage (R423). -/
def deliver (unit : Nat) (o : Bytes) (s : State) : State :=
  if overCap s.cfg o.length then raiseCap unit s else finishStage unit o s

/-- Begin the run of a codec over the working buffer (R36, R193). -/
def enterCodec (p : Phase) (s : State) : State := { s with phase := p, eng := { Engine.empty with src := s.cur } }

/-- `Emit` (R61) of a byte sequence by `unit`, and what comes next; an output beyond a finite BUF_CAP ends the job
(R423). -/
def emit (unit : Nat) (bs : Bytes) (s : State) (k : State → State) : State :=
  if overCap s.cfg (s.eng.out.length + bs.length) then raiseCap unit s
  else k { s with eng := { s.eng with out := s.eng.out ++ bs } }

/-- The predictor step without a predictor (R140), and the end of a predictor run. -/
def finishPredictor (o : Bytes) (s : State) : State := nextStage o s

/-! ## The Flate ladder (R162) -/

/-- Begin a run of the inflate engine at byte `start` of `src` (R190, R193). -/
def beginRun (zlib : Bool) (src : Bytes) (start : Nat) (s : State) : State :=
  { s with
    phase := if zlib then .zlibHdr else .block
    eng := { Engine.empty with
      src := src, bitPos := 8 * start, inflate := InflateRegs.init zlib, ladder := s.eng.ladder } }

/-- All strategies failed (R172). -/
def allFailed (s : State) : State :=
  raise (.flateAllFailed s.cur.length s.eng.ladder.e1 s.eng.ladder.e2) 0 s

/-- Strategy `l.step` failed with `e`: record it where it is the first or the second, and go to the next (R162). -/
def failStrategy (e : IStatus) (s : State) : State :=
  { s with
    phase := .ladder
    eng := { Engine.empty with
      ladder :=
        { step := s.eng.ladder.step + 1
          off := s.eng.ladder.off
          e1 := if s.eng.ladder.step = 1 then e else s.eng.ladder.e1
          e2 := if s.eng.ladder.step = 2 then e else s.eng.ladder.e2 } } }

/-- The next offset of the scan, or the failure of the ladder after offset 20 (R170, R172). -/
def scanNext (s : State) : State :=
  if 20 < nextOffset s.eng.ladder.off then allFailed s
  else
    beginRun false s.cur (nextOffset s.eng.ladder.off)
      { s with eng := { s.eng with ladder := { s.eng.ladder with off := nextOffset s.eng.ladder.off } } }

/-- The end of a run of the inflate engine with status `st` (R192): the ladder accepts its output or goes on (R162,
R163, R170). -/
def runEnd (st : IStatus) (s : State) : State :=
  if s.eng.ladder.step = 7 then
    if hasTextOp s.eng.out then finishStage 0 s.eng.out (logFlate 7 (decide (st ≠ .ok)) s) else scanNext s
  else if s.eng.out ≠ [] ∨ (st = .ok ∧ s.cfg.acceptCleanEmpty = true) then
    finishStage 0 s.eng.out (logFlate s.eng.ladder.step (decide (st ≠ .ok)) s)
  else failStrategy (ladderError st) s

/-- Enter strategy `n` (R94). -/
def setStrategy (n : Nat) (s : State) : State :=
  { s with eng := { s.eng with ladder := { s.eng.ladder with step := n } } }

/-- A strategy that is a configuration function (R167, R168). -/
def alternative (n : Nat) (present : Bool) (f : Bytes → Option Bytes) (s : State) : State :=
  match if present then f s.cur else none with
  | some (b :: o) =>
    if overCap s.cfg (b :: o).length then raiseCap 0 s else finishStage 0 (b :: o) (logFlate n false s)
  | _ => failStrategy .empty s

/-! ## Inflate -/

/-- `BITPOS` rounded up to a byte boundary (R67). -/
def alignBits (s : State) : State := { s with eng := { s.eng with bitPos := 8 * ((s.eng.bitPos + 7) / 8) } }

/-- Change the variables of the inflate run. -/
def setInflate (f : InflateRegs → InflateRegs) (s : State) : State :=
  { s with eng := { s.eng with inflate := f s.eng.inflate } }

/-- Where the sequencer goes next. -/
def goto (p : Phase) (s : State) : State := { s with phase := p }

/-- The end of a block (R198): the next block, or after the final one the trailer (R194) or the end of the run. -/
def blockEnd (s : State) : State :=
  if s.eng.inflate.bfinal then
    if s.eng.inflate.zlib then goto .zlibTrailer (alignBits s) else runEnd .ok s
  else goto .block s

/-- The code lengths of a dynamic header are complete: the checks, then the two tables (R201). -/
def tablesReady (s : State) : State :=
  if s.eng.inflate.lens.getD 256 0 = 0 then runEnd .noEob s
  else
    match buildCode .ll (s.eng.inflate.lens.take s.eng.inflate.hlit) with
    | .error e => runEnd e s
    | .ok ll =>
      match buildCode .d (s.eng.inflate.lens.drop s.eng.inflate.hlit) with
      | .error e => runEnd e s
      | .ok dd => goto .llSym (setInflate (fun r => { r with ll := ll, dd := dd }) s)

/-- Append `n` code lengths `v` (R201): a repeat that overruns fails, and the last length completes the header. -/
def addLengths (v n : Nat) (s : State) : State :=
  if s.eng.inflate.hlit + s.eng.inflate.hdist < s.eng.inflate.lens.length + n then runEnd .badRepeat s
  else
    let t := setInflate (fun r => { r with lens := r.lens ++ List.replicate n v }) s
    if s.eng.inflate.lens.length + n = s.eng.inflate.hlit + s.eng.inflate.hdist then tablesReady t else goto .clSym t

/-- A match length is known; the distance comes next (R204). -/
def matchLength (n : Nat) (s : State) : State :=
  goto .dSym (setInflate (fun r => { r with matchLen := n }) s)

/-- A match distance is known: the copy (R204). -/
def matchDistance (dist : Nat) (s : State) : State :=
  if s.eng.out.length < dist then runEnd .dist s
  else if overCap s.cfg (s.eng.out.length + s.eng.inflate.matchLen) then raiseCap 0 s
  else
    goto .llSym
      { s with eng := { s.eng with out := copyMatch dist s.eng.inflate.matchLen s.eng.out } }

/-! ## LZW -/

/-- A data code whose string is `str` (R252): emit, insert, remember. -/
def lzwData (str : Bytes) (s : State) : State :=
  emit 3 str s fun t => { t with eng := { t.eng with lzw := lzwInsert str t.eng.lzw } }

/-- A code that stands for nothing (R257). -/
def lzwInvalid (c : Nat) (s : State) : State := raise (.lzwInvalidCode c s.eng.lzw.nextCode) 3 s

/-! ## ASCIIHex and ASCII85 -/

/-- The end of an ASCIIHex run (R281, R285): an unpaired digit is padded with 0. -/
def hexEnd (s : State) : State :=
  match s.eng.hi with
  | none => finishStage 1 s.eng.out s
  | some h => emit 1 [BitVec.ofNat 8 (16 * h.toNat)] s fun t => finishStage 1 t.eng.out t

/-- `EmitGroup(k)` on the value of the group (R291). -/
def emitGroup (k v : Nat) (s : State) (next : State → State) : State :=
  if 2 ^ 32 ≤ v then raise .a85Overflow 2 s
  else emit 2 (groupBytes k v) s fun t => next { t with eng := { t.eng with acc := 0, ngrp := 0 } }

/-- The end of an ASCII85 run: `FinalGroup` (R293). -/
def a85End (s : State) : State :=
  if s.eng.ngrp = 0 then finishStage 2 s.eng.out s
  else if s.eng.ngrp = 1 then raise .a85LoneChar 2 s
  else
    emitGroup (s.eng.ngrp - 1) (padGroup (5 - s.eng.ngrp) s.eng.acc) s fun t => finishStage 2 t.eng.out t

/-! ## Predictor -/

/-- `PRED_BAD_PARAMS` (R322). -/
def badParams (selector : Nat) (s : State) : State :=
  raise (.predBadParams selector s.j.desc.columns.toNat s.j.desc.colors.toNat s.j.desc.bpc.toNat) 8 s

/-- Begin a predictor run over rows of `row` bytes (R320, R322, R324). -/
def enterPredictor (selector row : Nat) (implied : Option Nat) (p : Phase) (s : State) : State :=
  if legalGeometry s.j.desc = false then badParams selector s
  else if s.cur.length % row ≠ 0 then raise (.predRowMismatch s.cur.length row) 8 s
  else
    { s with
      phase := p
      eng := { Engine.empty with
        src := s.cur, pred := ⟨List.replicate (pixelBytes s.j.desc) 0, implied, 0⟩ } }

/-- The encoded bytes of the row at the cursor (R325, R327). -/
def rowBytes (s : State) : Bytes := (s.eng.src.drop s.eng.bytePos).take (pixelBytes s.j.desc)

/-- A decoded row is done: it goes out, the cursor moves past it, and `pred` are the registers for the next row (R325,
R327). -/
def finishRow (row : Bytes) (pred : PredRegs) (s : State) : State :=
  emit 8 row s fun t =>
    { t with eng := { t.eng with bytePos := t.eng.bytePos + pixelBytes t.j.desc, pred := pred } }

/-- A decoded PNG row is done (R327): it becomes `PREVROW`. -/
def finishPngRow (row : Bytes) (s : State) : State :=
  finishRow row { s.eng.pred with prevRow := row, row := s.eng.pred.row + 1 } s

/-- A PNG row with a tag (R327). -/
def pngRowWith (tag : Nat) (s : State) : State :=
  finishPngRow (pngDecodeRow tag (bytesPerPixel s.j.desc) s.eng.pred.prevRow [] (rowBytes s)) s

/-! ## CCITT and fax -/

/-- Change the registers of the fax attempt. -/
def setFax (f : FaxRegs → FaxRegs) (s : State) : State := { s with eng := { s.eng with fax := f s.eng.fax } }

/-- `columns` (R351). -/
def faxColumns (s : State) : Nat := s.j.desc.cColumns.toNat

/-- The end of a CCITT job with the bitmap before inversion (R351, R361, R423). -/
def finishBitmap (bm : Bytes) (s : State) : State :=
  if overCap s.cfg bm.length then raiseCap 6 s else finishJob (invertBitmap (blackIs1 s.j.desc) bm) s

/-- The bitmap of the rows an attempt gave (R358, R359). -/
def finishRows (trs : List (List Nat)) (s : State) : State :=
  finishBitmap (rowsToBitmap trs (faxColumns s) ((ccittRows s.j.desc).getD trs.length)) s

/-- The end of an attempt (R355 to R357): no row leads to the one retry, and after it to white. -/
def attemptEnd (trs : List (List Nat)) (s : State) : State :=
  if trs = [] then
    if s.eng.fax.attempt = 1 then goto .faxBegin (setFax (fun _ => FaxRegs.init 2) (setCcittRetry s))
    else finishRows [] (setCcittWhite s)
  else finishRows trs s

/-- `stop` (R382): the rows completed before are kept. -/
def faxStop (s : State) : State := attemptEnd s.eng.fax.rowsDone s

/-- A row is complete (R383): it becomes the reference line. -/
def rowDone (t : List Nat) (s : State) : State :=
  goto .faxRowStart (setFax (fun f => { f with rowsDone := f.rowsDone ++ [t], ref := t }) s)

/-- Go on with a two-dimensional row at the position `A0` (R399). -/
def continue2D (s : State) : State :=
  if s.eng.fax.a0 < (faxColumns s : Int) then goto .faxMode s else rowDone s.eng.fax.t s

/-- A vertical mode (R396): the next transition is at `b1 + d`. -/
def vertical (d : Int) (s : State) : State :=
  let a1 : Int := (findB (faxColumns s) s.eng.fax).1 + d
  if (faxColumns s : Int) < a1 ∨ a1 < (a0Pos s.eng.fax : Int) then faxStop s
  else
    continue2D (setFax (fun f =>
      { f with t := f.t ++ [a1.toNat], a0 := a1, colour := otherColour f.colour }) s)

/-- A run length is complete (R391): what it is for decides (R395, R398). -/
def runComplete (run : Nat) (s : State) : State :=
  match s.eng.fax.use with
  | .row1d =>
    if faxColumns s < s.eng.fax.pos + run then faxStop s
    else if s.eng.fax.pos + run < faxColumns s then
      goto .faxRun (setFax (fun f =>
        { f with pos := f.pos + run, t := f.t ++ [f.pos + run], colour := otherColour f.colour, total := 0 }) s)
    else rowDone (s.eng.fax.t ++ [s.eng.fax.pos + run]) s
  | .horiz1 =>
    goto .faxRun (setFax (fun f => { f with use := .horiz2 (a0Pos f + run), total := 0 }) s)
  | .horiz2 a1 =>
    if faxColumns s < a1 + run then faxStop s
    else continue2D (setFax (fun f => { f with t := f.t ++ [a1, a1 + run], a0 := ((a1 + run : Nat) : Int) }) s)

/-- A make-up code (R391). -/
def makeUp (n : Nat) (s : State) : State := setFax (fun f => { f with total := f.total + n }) s

/-- A terminating code (R391). -/
def terminating (n : Nat) (s : State) : State := runComplete (s.eng.fax.total + n) s

/-- Begin a one-dimensional row (R398). -/
def beginRow1D (s : State) : State :=
  goto .faxRun (setFax (fun f => { f with t := [], pos := 0, colour := .white, total := 0, use := .row1d }) s)

/-- Begin a two-dimensional row (R399). -/
def beginRow2D (s : State) : State :=
  goto .faxMode (setFax (fun f => { f with t := [], a0 := -1, colour := .white }) s)

/-- The colour of the run being read (R395, R398). -/
def runColour (f : FaxRegs) : Colour :=
  match f.use with
  | .horiz2 _ => otherColour f.colour
  | _ => f.colour

/-- Does the cursor stand at the end of the input (R381)? -/
def atEnd (s : State) : Bool := decide (8 * s.eng.src.length ≤ s.eng.bitPos)

end Sys2Proof.Machine
end

