-- ==== Sys2Proof/Machine/Command.lean ====
section
/-! DEFINITION. The host commands (R90, 40_orchestrator.md R131, R132, 46_ccitt.md R351, R360). -/

namespace Sys2Proof.Machine

open Sys2Proof

/-- `DECODE_STREAM` (R131): start the generic job without options. -/
def execDecodeStream (s : State) : Host.Outcome State Fault Refusal := .next (startJob .decodeStream s)

/-- `DECODE_STREAM_OPT` (R132): start the generic job with the predictor and the limits of the descriptor. -/
def execDecodeStreamOpt (s : State) : Host.Outcome State Fault Refusal := .next (startJob .decodeStreamOpt s)

/-- `CCITT_DECODE` (R351): start a fax decoding. -/
def execCcittDecode (s : State) : Host.Outcome State Fault Refusal := .next (startJob .ccittDecode s)

/-- `CCITT_GRAY` (R360): start a grayscale expansion. -/
def execCcittGray (s : State) : Host.Outcome State Fault Refusal := .next (startJob .ccittGray s)

/-- `ACK` (R22, R428). -/
def execAck (s : State) : Host.Outcome State Fault Refusal := .next (acknowledge s)

end Sys2Proof.Machine
end

