-- ==== Sys2Proof/Machine/Fax.lean ====
section
/-! DEFINITION. The fax codes (47_fax_engine.md): two-dimensional modes, the end-of-line code, run lengths. -/

namespace Sys2Proof.Machine

open Sys2Proof

/-- `V0` (R396). -/
def execFaxV0 (s : State) : Host.Outcome State Fault Refusal := .next (vertical 0 s)

/-- `VR1` (R396). -/
def execFaxVr1 (s : State) : Host.Outcome State Fault Refusal := .next (vertical 1 s)

/-- `VR2` (R396). -/
def execFaxVr2 (s : State) : Host.Outcome State Fault Refusal := .next (vertical 2 s)

/-- `VR3` (R396). -/
def execFaxVr3 (s : State) : Host.Outcome State Fault Refusal := .next (vertical 3 s)

/-- `VL1` (R396). -/
def execFaxVl1 (s : State) : Host.Outcome State Fault Refusal := .next (vertical (-1) s)

/-- `VL2` (R396). -/
def execFaxVl2 (s : State) : Host.Outcome State Fault Refusal := .next (vertical (-2) s)

/-- `VL3` (R396). -/
def execFaxVl3 (s : State) : Host.Outcome State Fault Refusal := .next (vertical (-3) s)

/-- `HORIZ` (R395): two run lengths follow. -/
def execFaxHoriz (s : State) : Host.Outcome State Fault Refusal :=
  .next (goto .faxRun (setFax (fun f => { f with use := .horiz1, total := 0 }) s))

/-- `PASS` (R394): the position moves to `b2`, without a transition. -/
def execFaxPass (s : State) : Host.Outcome State Fault Refusal :=
  .next (continue2D (setFax (fun f => { f with a0 := ((findB (faxColumns s) f).2 : Int) }) s))

/-- `EOL`: at the start of a Group 4 row the end of the data (R392), at the start of a Group 3 row counted (R386). -/
def execFaxEol (_fill : Nat) (s : State) : Host.Outcome State Fault Refusal :=
  .next (if isGroup4 s.j.desc then attemptEnd s.eng.fax.rowsDone s
    else goto .faxEol (setFax (fun f => { f with eols := f.eols + 1 }) s))

/-- Seven bits that are no mode (R393). -/
def execFaxModeIllegal (_x : BitVec 1) (s : State) : Host.Outcome State Fault Refusal := .next (faxStop s)

/-- Thirteen bits that are no code of the colour (R381, R391). -/
def execFaxRunIllegal (_code : BitVec 13) (s : State) : Host.Outcome State Fault Refusal := .next (faxStop s)

/-- White terminating code 0. -/
def execWT0 (s : State) : Host.Outcome State Fault Refusal := .next (terminating 0 s)

/-- White terminating code 1. -/
def execWT1 (s : State) : Host.Outcome State Fault Refusal := .next (terminating 1 s)

/-- White terminating code 2. -/
def execWT2 (s : State) : Host.Outcome State Fault Refusal := .next (terminating 2 s)

/-- White terminating code 3. -/
def execWT3 (s : State) : Host.Outcome State Fault Refusal := .next (terminating 3 s)

/-- White terminating code 4. -/
def execWT4 (s : State) : Host.Outcome State Fault Refusal := .next (terminating 4 s)

/-- White terminating code 5. -/
def execWT5 (s : State) : Host.Outcome State Fault Refusal := .next (terminating 5 s)

/-- White terminating code 6. -/
def execWT6 (s : State) : Host.Outcome State Fault Refusal := .next (terminating 6 s)

/-- White terminating code 7. -/
def execWT7 (s : State) : Host.Outcome State Fault Refusal := .next (terminating 7 s)

/-- White terminating code 8. -/
def execWT8 (s : State) : Host.Outcome State Fault Refusal := .next (terminating 8 s)

/-- White terminating code 9. -/
def execWT9 (s : State) : Host.Outcome State Fault Refusal := .next (terminating 9 s)

/-- White terminating code 10. -/
def execWT10 (s : State) : Host.Outcome State Fault Refusal := .next (terminating 10 s)

/-- White terminating code 11. -/
def execWT11 (s : State) : Host.Outcome State Fault Refusal := .next (terminating 11 s)

/-- White terminating code 12. -/
def execWT12 (s : State) : Host.Outcome State Fault Refusal := .next (terminating 12 s)

/-- White terminating code 13. -/
def execWT13 (s : State) : Host.Outcome State Fault Refusal := .next (terminating 13 s)

/-- White terminating code 14. -/
def execWT14 (s : State) : Host.Outcome State Fault Refusal := .next (terminating 14 s)

/-- White terminating code 15. -/
def execWT15 (s : State) : Host.Outcome State Fault Refusal := .next (terminating 15 s)

/-- White terminating code 16. -/
def execWT16 (s : State) : Host.Outcome State Fault Refusal := .next (terminating 16 s)

/-- White terminating code 17. -/
def execWT17 (s : State) : Host.Outcome State Fault Refusal := .next (terminating 17 s)

/-- White terminating code 18. -/
def execWT18 (s : State) : Host.Outcome State Fault Refusal := .next (terminating 18 s)

/-- White terminating code 19. -/
def execWT19 (s : State) : Host.Outcome State Fault Refusal := .next (terminating 19 s)

/-- White terminating code 20. -/
def execWT20 (s : State) : Host.Outcome State Fault Refusal := .next (terminating 20 s)

/-- White terminating code 21. -/
def execWT21 (s : State) : Host.Outcome State Fault Refusal := .next (terminating 21 s)

/-- White terminating code 22. -/
def execWT22 (s : State) : Host.Outcome State Fault Refusal := .next (terminating 22 s)

/-- White terminating code 23. -/
def execWT23 (s : State) : Host.Outcome State Fault Refusal := .next (terminating 23 s)

/-- White terminating code 24. -/
def execWT24 (s : State) : Host.Outcome State Fault Refusal := .next (terminating 24 s)

/-- White terminating code 25. -/
def execWT25 (s : State) : Host.Outcome State Fault Refusal := .next (terminating 25 s)

/-- White terminating code 26. -/
def execWT26 (s : State) : Host.Outcome State Fault Refusal := .next (terminating 26 s)

/-- White terminating code 27. -/
def execWT27 (s : State) : Host.Outcome State Fault Refusal := .next (terminating 27 s)

/-- White terminating code 28. -/
def execWT28 (s : State) : Host.Outcome State Fault Refusal := .next (terminating 28 s)

/-- White terminating code 29. -/
def execWT29 (s : State) : Host.Outcome State Fault Refusal := .next (terminating 29 s)

/-- White terminating code 30. -/
def execWT30 (s : State) : Host.Outcome State Fault Refusal := .next (terminating 30 s)

/-- White terminating code 31. -/
def execWT31 (s : State) : Host.Outcome State Fault Refusal := .next (terminating 31 s)

/-- White terminating code 32. -/
def execWT32 (s : State) : Host.Outcome State Fault Refusal := .next (terminating 32 s)

/-- White terminating code 33. -/
def execWT33 (s : State) : Host.Outcome State Fault Refusal := .next (terminating 33 s)

/-- White terminating code 34. -/
def execWT34 (s : State) : Host.Outcome State Fault Refusal := .next (terminating 34 s)

/-- White terminating code 35. -/
def execWT35 (s : State) : Host.Outcome State Fault Refusal := .next (terminating 35 s)

/-- White terminating code 36. -/
def execWT36 (s : State) : Host.Outcome State Fault Refusal := .next (terminating 36 s)

/-- White terminating code 37. -/
def execWT37 (s : State) : Host.Outcome State Fault Refusal := .next (terminating 37 s)

/-- White terminating code 38. -/
def execWT38 (s : State) : Host.Outcome State Fault Refusal := .next (terminating 38 s)

/-- White terminating code 39. -/
def execWT39 (s : State) : Host.Outcome State Fault Refusal := .next (terminating 39 s)

/-- White terminating code 40. -/
def execWT40 (s : State) : Host.Outcome State Fault Refusal := .next (terminating 40 s)

/-- White terminating code 41. -/
def execWT41 (s : State) : Host.Outcome State Fault Refusal := .next (terminating 41 s)

/-- White terminating code 42. -/
def execWT42 (s : State) : Host.Outcome State Fault Refusal := .next (terminating 42 s)

/-- White terminating code 43. -/
def execWT43 (s : State) : Host.Outcome State Fault Refusal := .next (terminating 43 s)

/-- White terminating code 44. -/
def execWT44 (s : State) : Host.Outcome State Fault Refusal := .next (terminating 44 s)

/-- White terminating code 45. -/
def execWT45 (s : State) : Host.Outcome State Fault Refusal := .next (terminating 45 s)

/-- White terminating code 46. -/
def execWT46 (s : State) : Host.Outcome State Fault Refusal := .next (terminating 46 s)

/-- White terminating code 47. -/
def execWT47 (s : State) : Host.Outcome State Fault Refusal := .next (terminating 47 s)

/-- White terminating code 48. -/
def execWT48 (s : State) : Host.Outcome State Fault Refusal := .next (terminating 48 s)

/-- White terminating code 49. -/
def execWT49 (s : State) : Host.Outcome State Fault Refusal := .next (terminating 49 s)

/-- White terminating code 50. -/
def execWT50 (s : State) : Host.Outcome State Fault Refusal := .next (terminating 50 s)

/-- White terminating code 51. -/
def execWT51 (s : State) : Host.Outcome State Fault Refusal := .next (terminating 51 s)

/-- White terminating code 52. -/
def execWT52 (s : State) : Host.Outcome State Fault Refusal := .next (terminating 52 s)

/-- White terminating code 53. -/
def execWT53 (s : State) : Host.Outcome State Fault Refusal := .next (terminating 53 s)

/-- White terminating code 54. -/
def execWT54 (s : State) : Host.Outcome State Fault Refusal := .next (terminating 54 s)

/-- White terminating code 55. -/
def execWT55 (s : State) : Host.Outcome State Fault Refusal := .next (terminating 55 s)

/-- White terminating code 56. -/
def execWT56 (s : State) : Host.Outcome State Fault Refusal := .next (terminating 56 s)

/-- White terminating code 57. -/
def execWT57 (s : State) : Host.Outcome State Fault Refusal := .next (terminating 57 s)

/-- White terminating code 58. -/
def execWT58 (s : State) : Host.Outcome State Fault Refusal := .next (terminating 58 s)

/-- White terminating code 59. -/
def execWT59 (s : State) : Host.Outcome State Fault Refusal := .next (terminating 59 s)

/-- White terminating code 60. -/
def execWT60 (s : State) : Host.Outcome State Fault Refusal := .next (terminating 60 s)

/-- White terminating code 61. -/
def execWT61 (s : State) : Host.Outcome State Fault Refusal := .next (terminating 61 s)

/-- White terminating code 62. -/
def execWT62 (s : State) : Host.Outcome State Fault Refusal := .next (terminating 62 s)

/-- White terminating code 63. -/
def execWT63 (s : State) : Host.Outcome State Fault Refusal := .next (terminating 63 s)

/-- White make-up code 64. -/
def execWM64 (s : State) : Host.Outcome State Fault Refusal := .next (makeUp 64 s)

/-- White make-up code 128. -/
def execWM128 (s : State) : Host.Outcome State Fault Refusal := .next (makeUp 128 s)

/-- White make-up code 192. -/
def execWM192 (s : State) : Host.Outcome State Fault Refusal := .next (makeUp 192 s)

/-- White make-up code 256. -/
def execWM256 (s : State) : Host.Outcome State Fault Refusal := .next (makeUp 256 s)

/-- White make-up code 320. -/
def execWM320 (s : State) : Host.Outcome State Fault Refusal := .next (makeUp 320 s)

/-- White make-up code 384. -/
def execWM384 (s : State) : Host.Outcome State Fault Refusal := .next (makeUp 384 s)

/-- White make-up code 448. -/
def execWM448 (s : State) : Host.Outcome State Fault Refusal := .next (makeUp 448 s)

/-- White make-up code 512. -/
def execWM512 (s : State) : Host.Outcome State Fault Refusal := .next (makeUp 512 s)

/-- White make-up code 576. -/
def execWM576 (s : State) : Host.Outcome State Fault Refusal := .next (makeUp 576 s)

/-- White make-up code 640. -/
def execWM640 (s : State) : Host.Outcome State Fault Refusal := .next (makeUp 640 s)

/-- White make-up code 704. -/
def execWM704 (s : State) : Host.Outcome State Fault Refusal := .next (makeUp 704 s)

/-- White make-up code 768. -/
def execWM768 (s : State) : Host.Outcome State Fault Refusal := .next (makeUp 768 s)

/-- White make-up code 832. -/
def execWM832 (s : State) : Host.Outcome State Fault Refusal := .next (makeUp 832 s)

/-- White make-up code 896. -/
def execWM896 (s : State) : Host.Outcome State Fault Refusal := .next (makeUp 896 s)

/-- White make-up code 960. -/
def execWM960 (s : State) : Host.Outcome State Fault Refusal := .next (makeUp 960 s)

/-- White make-up code 1024. -/
def execWM1024 (s : State) : Host.Outcome State Fault Refusal := .next (makeUp 1024 s)

/-- White make-up code 1088. -/
def execWM1088 (s : State) : Host.Outcome State Fault Refusal := .next (makeUp 1088 s)

/-- White make-up code 1152. -/
def execWM1152 (s : State) : Host.Outcome State Fault Refusal := .next (makeUp 1152 s)

/-- White make-up code 1216. -/
def execWM1216 (s : State) : Host.Outcome State Fault Refusal := .next (makeUp 1216 s)

/-- White make-up code 1280. -/
def execWM1280 (s : State) : Host.Outcome State Fault Refusal := .next (makeUp 1280 s)

/-- White make-up code 1344. -/
def execWM1344 (s : State) : Host.Outcome State Fault Refusal := .next (makeUp 1344 s)

/-- White make-up code 1408. -/
def execWM1408 (s : State) : Host.Outcome State Fault Refusal := .next (makeUp 1408 s)

/-- White make-up code 1472. -/
def execWM1472 (s : State) : Host.Outcome State Fault Refusal := .next (makeUp 1472 s)

/-- White make-up code 1536. -/
def execWM1536 (s : State) : Host.Outcome State Fault Refusal := .next (makeUp 1536 s)

/-- White make-up code 1600. -/
def execWM1600 (s : State) : Host.Outcome State Fault Refusal := .next (makeUp 1600 s)

/-- White make-up code 1664. -/
def execWM1664 (s : State) : Host.Outcome State Fault Refusal := .next (makeUp 1664 s)

/-- White make-up code 1728. -/
def execWM1728 (s : State) : Host.Outcome State Fault Refusal := .next (makeUp 1728 s)

/-- Black terminating code 0. -/
def execBT0 (s : State) : Host.Outcome State Fault Refusal := .next (terminating 0 s)

/-- Black terminating code 1. -/
def execBT1 (s : State) : Host.Outcome State Fault Refusal := .next (terminating 1 s)

/-- Black terminating code 2. -/
def execBT2 (s : State) : Host.Outcome State Fault Refusal := .next (terminating 2 s)

/-- Black terminating code 3. -/
def execBT3 (s : State) : Host.Outcome State Fault Refusal := .next (terminating 3 s)

/-- Black terminating code 4. -/
def execBT4 (s : State) : Host.Outcome State Fault Refusal := .next (terminating 4 s)

/-- Black terminating code 5. -/
def execBT5 (s : State) : Host.Outcome State Fault Refusal := .next (terminating 5 s)

/-- Black terminating code 6. -/
def execBT6 (s : State) : Host.Outcome State Fault Refusal := .next (terminating 6 s)

/-- Black terminating code 7. -/
def execBT7 (s : State) : Host.Outcome State Fault Refusal := .next (terminating 7 s)

/-- Black terminating code 8. -/
def execBT8 (s : State) : Host.Outcome State Fault Refusal := .next (terminating 8 s)

/-- Black terminating code 9. -/
def execBT9 (s : State) : Host.Outcome State Fault Refusal := .next (terminating 9 s)

/-- Black terminating code 10. -/
def execBT10 (s : State) : Host.Outcome State Fault Refusal := .next (terminating 10 s)

/-- Black terminating code 11. -/
def execBT11 (s : State) : Host.Outcome State Fault Refusal := .next (terminating 11 s)

/-- Black terminating code 12. -/
def execBT12 (s : State) : Host.Outcome State Fault Refusal := .next (terminating 12 s)

/-- Black terminating code 13. -/
def execBT13 (s : State) : Host.Outcome State Fault Refusal := .next (terminating 13 s)

/-- Black terminating code 14. -/
def execBT14 (s : State) : Host.Outcome State Fault Refusal := .next (terminating 14 s)

/-- Black terminating code 15. -/
def execBT15 (s : State) : Host.Outcome State Fault Refusal := .next (terminating 15 s)

/-- Black terminating code 16. -/
def execBT16 (s : State) : Host.Outcome State Fault Refusal := .next (terminating 16 s)

/-- Black terminating code 17. -/
def execBT17 (s : State) : Host.Outcome State Fault Refusal := .next (terminating 17 s)

/-- Black terminating code 18. -/
def execBT18 (s : State) : Host.Outcome State Fault Refusal := .next (terminating 18 s)

/-- Black terminating code 19. -/
def execBT19 (s : State) : Host.Outcome State Fault Refusal := .next (terminating 19 s)

/-- Black terminating code 20. -/
def execBT20 (s : State) : Host.Outcome State Fault Refusal := .next (terminating 20 s)

/-- Black terminating code 21. -/
def execBT21 (s : State) : Host.Outcome State Fault Refusal := .next (terminating 21 s)

/-- Black terminating code 22. -/
def execBT22 (s : State) : Host.Outcome State Fault Refusal := .next (terminating 22 s)

/-- Black terminating code 23. -/
def execBT23 (s : State) : Host.Outcome State Fault Refusal := .next (terminating 23 s)

/-- Black terminating code 24. -/
def execBT24 (s : State) : Host.Outcome State Fault Refusal := .next (terminating 24 s)

/-- Black terminating code 25. -/
def execBT25 (s : State) : Host.Outcome State Fault Refusal := .next (terminating 25 s)

/-- Black terminating code 26. -/
def execBT26 (s : State) : Host.Outcome State Fault Refusal := .next (terminating 26 s)

/-- Black terminating code 27. -/
def execBT27 (s : State) : Host.Outcome State Fault Refusal := .next (terminating 27 s)

/-- Black terminating code 28. -/
def execBT28 (s : State) : Host.Outcome State Fault Refusal := .next (terminating 28 s)

/-- Black terminating code 29. -/
def execBT29 (s : State) : Host.Outcome State Fault Refusal := .next (terminating 29 s)

/-- Black terminating code 30. -/
def execBT30 (s : State) : Host.Outcome State Fault Refusal := .next (terminating 30 s)

/-- Black terminating code 31. -/
def execBT31 (s : State) : Host.Outcome State Fault Refusal := .next (terminating 31 s)

/-- Black terminating code 32. -/
def execBT32 (s : State) : Host.Outcome State Fault Refusal := .next (terminating 32 s)

/-- Black terminating code 33. -/
def execBT33 (s : State) : Host.Outcome State Fault Refusal := .next (terminating 33 s)

/-- Black terminating code 34. -/
def execBT34 (s : State) : Host.Outcome State Fault Refusal := .next (terminating 34 s)

/-- Black terminating code 35. -/
def execBT35 (s : State) : Host.Outcome State Fault Refusal := .next (terminating 35 s)

/-- Black terminating code 36. -/
def execBT36 (s : State) : Host.Outcome State Fault Refusal := .next (terminating 36 s)

/-- Black terminating code 37. -/
def execBT37 (s : State) : Host.Outcome State Fault Refusal := .next (terminating 37 s)

/-- Black terminating code 38. -/
def execBT38 (s : State) : Host.Outcome State Fault Refusal := .next (terminating 38 s)

/-- Black terminating code 39. -/
def execBT39 (s : State) : Host.Outcome State Fault Refusal := .next (terminating 39 s)

/-- Black terminating code 40. -/
def execBT40 (s : State) : Host.Outcome State Fault Refusal := .next (terminating 40 s)

/-- Black terminating code 41. -/
def execBT41 (s : State) : Host.Outcome State Fault Refusal := .next (terminating 41 s)

/-- Black terminating code 42. -/
def execBT42 (s : State) : Host.Outcome State Fault Refusal := .next (terminating 42 s)

/-- Black terminating code 43. -/
def execBT43 (s : State) : Host.Outcome State Fault Refusal := .next (terminating 43 s)

/-- Black terminating code 44. -/
def execBT44 (s : State) : Host.Outcome State Fault Refusal := .next (terminating 44 s)

/-- Black terminating code 45. -/
def execBT45 (s : State) : Host.Outcome State Fault Refusal := .next (terminating 45 s)

/-- Black terminating code 46. -/
def execBT46 (s : State) : Host.Outcome State Fault Refusal := .next (terminating 46 s)

/-- Black terminating code 47. -/
def execBT47 (s : State) : Host.Outcome State Fault Refusal := .next (terminating 47 s)

/-- Black terminating code 48. -/
def execBT48 (s : State) : Host.Outcome State Fault Refusal := .next (terminating 48 s)

/-- Black terminating code 49. -/
def execBT49 (s : State) : Host.Outcome State Fault Refusal := .next (terminating 49 s)

/-- Black terminating code 50. -/
def execBT50 (s : State) : Host.Outcome State Fault Refusal := .next (terminating 50 s)

/-- Black terminating code 51. -/
def execBT51 (s : State) : Host.Outcome State Fault Refusal := .next (terminating 51 s)

/-- Black terminating code 52. -/
def execBT52 (s : State) : Host.Outcome State Fault Refusal := .next (terminating 52 s)

/-- Black terminating code 53. -/
def execBT53 (s : State) : Host.Outcome State Fault Refusal := .next (terminating 53 s)

/-- Black terminating code 54. -/
def execBT54 (s : State) : Host.Outcome State Fault Refusal := .next (terminating 54 s)

/-- Black terminating code 55. -/
def execBT55 (s : State) : Host.Outcome State Fault Refusal := .next (terminating 55 s)

/-- Black terminating code 56. -/
def execBT56 (s : State) : Host.Outcome State Fault Refusal := .next (terminating 56 s)

/-- Black terminating code 57. -/
def execBT57 (s : State) : Host.Outcome State Fault Refusal := .next (terminating 57 s)

/-- Black terminating code 58. -/
def execBT58 (s : State) : Host.Outcome State Fault Refusal := .next (terminating 58 s)

/-- Black terminating code 59. -/
def execBT59 (s : State) : Host.Outcome State Fault Refusal := .next (terminating 59 s)

/-- Black terminating code 60. -/
def execBT60 (s : State) : Host.Outcome State Fault Refusal := .next (terminating 60 s)

/-- Black terminating code 61. -/
def execBT61 (s : State) : Host.Outcome State Fault Refusal := .next (terminating 61 s)

/-- Black terminating code 62. -/
def execBT62 (s : State) : Host.Outcome State Fault Refusal := .next (terminating 62 s)

/-- Black terminating code 63. -/
def execBT63 (s : State) : Host.Outcome State Fault Refusal := .next (terminating 63 s)

/-- Black make-up code 64. -/
def execBM64 (s : State) : Host.Outcome State Fault Refusal := .next (makeUp 64 s)

/-- Black make-up code 128. -/
def execBM128 (s : State) : Host.Outcome State Fault Refusal := .next (makeUp 128 s)

/-- Black make-up code 192. -/
def execBM192 (s : State) : Host.Outcome State Fault Refusal := .next (makeUp 192 s)

/-- Black make-up code 256. -/
def execBM256 (s : State) : Host.Outcome State Fault Refusal := .next (makeUp 256 s)

/-- Black make-up code 320. -/
def execBM320 (s : State) : Host.Outcome State Fault Refusal := .next (makeUp 320 s)

/-- Black make-up code 384. -/
def execBM384 (s : State) : Host.Outcome State Fault Refusal := .next (makeUp 384 s)

/-- Black make-up code 448. -/
def execBM448 (s : State) : Host.Outcome State Fault Refusal := .next (makeUp 448 s)

/-- Black make-up code 512. -/
def execBM512 (s : State) : Host.Outcome State Fault Refusal := .next (makeUp 512 s)

/-- Black make-up code 576. -/
def execBM576 (s : State) : Host.Outcome State Fault Refusal := .next (makeUp 576 s)

/-- Black make-up code 640. -/
def execBM640 (s : State) : Host.Outcome State Fault Refusal := .next (makeUp 640 s)

/-- Black make-up code 704. -/
def execBM704 (s : State) : Host.Outcome State Fault Refusal := .next (makeUp 704 s)

/-- Black make-up code 768. -/
def execBM768 (s : State) : Host.Outcome State Fault Refusal := .next (makeUp 768 s)

/-- Black make-up code 832. -/
def execBM832 (s : State) : Host.Outcome State Fault Refusal := .next (makeUp 832 s)

/-- Black make-up code 896. -/
def execBM896 (s : State) : Host.Outcome State Fault Refusal := .next (makeUp 896 s)

/-- Black make-up code 960. -/
def execBM960 (s : State) : Host.Outcome State Fault Refusal := .next (makeUp 960 s)

/-- Black make-up code 1024. -/
def execBM1024 (s : State) : Host.Outcome State Fault Refusal := .next (makeUp 1024 s)

/-- Black make-up code 1088. -/
def execBM1088 (s : State) : Host.Outcome State Fault Refusal := .next (makeUp 1088 s)

/-- Black make-up code 1152. -/
def execBM1152 (s : State) : Host.Outcome State Fault Refusal := .next (makeUp 1152 s)

/-- Black make-up code 1216. -/
def execBM1216 (s : State) : Host.Outcome State Fault Refusal := .next (makeUp 1216 s)

/-- Black make-up code 1280. -/
def execBM1280 (s : State) : Host.Outcome State Fault Refusal := .next (makeUp 1280 s)

/-- Black make-up code 1344. -/
def execBM1344 (s : State) : Host.Outcome State Fault Refusal := .next (makeUp 1344 s)

/-- Black make-up code 1408. -/
def execBM1408 (s : State) : Host.Outcome State Fault Refusal := .next (makeUp 1408 s)

/-- Black make-up code 1472. -/
def execBM1472 (s : State) : Host.Outcome State Fault Refusal := .next (makeUp 1472 s)

/-- Black make-up code 1536. -/
def execBM1536 (s : State) : Host.Outcome State Fault Refusal := .next (makeUp 1536 s)

/-- Black make-up code 1600. -/
def execBM1600 (s : State) : Host.Outcome State Fault Refusal := .next (makeUp 1600 s)

/-- Black make-up code 1664. -/
def execBM1664 (s : State) : Host.Outcome State Fault Refusal := .next (makeUp 1664 s)

/-- Black make-up code 1728. -/
def execBM1728 (s : State) : Host.Outcome State Fault Refusal := .next (makeUp 1728 s)

/-- Common make-up code 1792. -/
def execXM1792 (s : State) : Host.Outcome State Fault Refusal := .next (makeUp 1792 s)

/-- Common make-up code 1856. -/
def execXM1856 (s : State) : Host.Outcome State Fault Refusal := .next (makeUp 1856 s)

/-- Common make-up code 1920. -/
def execXM1920 (s : State) : Host.Outcome State Fault Refusal := .next (makeUp 1920 s)

/-- Common make-up code 1984. -/
def execXM1984 (s : State) : Host.Outcome State Fault Refusal := .next (makeUp 1984 s)

/-- Common make-up code 2048. -/
def execXM2048 (s : State) : Host.Outcome State Fault Refusal := .next (makeUp 2048 s)

/-- Common make-up code 2112. -/
def execXM2112 (s : State) : Host.Outcome State Fault Refusal := .next (makeUp 2112 s)

/-- Common make-up code 2176. -/
def execXM2176 (s : State) : Host.Outcome State Fault Refusal := .next (makeUp 2176 s)

/-- Common make-up code 2240. -/
def execXM2240 (s : State) : Host.Outcome State Fault Refusal := .next (makeUp 2240 s)

/-- Common make-up code 2304. -/
def execXM2304 (s : State) : Host.Outcome State Fault Refusal := .next (makeUp 2304 s)

/-- Common make-up code 2368. -/
def execXM2368 (s : State) : Host.Outcome State Fault Refusal := .next (makeUp 2368 s)

/-- Common make-up code 2432. -/
def execXM2432 (s : State) : Host.Outcome State Fault Refusal := .next (makeUp 2432 s)

/-- Common make-up code 2496. -/
def execXM2496 (s : State) : Host.Outcome State Fault Refusal := .next (makeUp 2496 s)

/-- Common make-up code 2560. -/
def execXM2560 (s : State) : Host.Outcome State Fault Refusal := .next (makeUp 2560 s)

end Sys2Proof.Machine
end

