-- ==== Sys2Proof/Machine/Filter.lean ====
section
/-! DEFINITION. The filter stages (40_orchestrator.md R133, R134): each name begins its codec over the working buffer. -/

namespace Sys2Proof.Machine

open Sys2Proof

/-- `FlateDecode` (R161): begin the ladder at its first strategy. -/
def execFlateDecode (s : State) : Host.Outcome State Fault Refusal := .next (setStrategy 1 (enterCodec .ladder s))

/-- `ASCIIHexDecode` (R281). -/
def execAsciiHexDecode (s : State) : Host.Outcome State Fault Refusal := .next (enterCodec .hex s)

/-- `ASCII85Decode` (R288). -/
def execAscii85Decode (s : State) : Host.Outcome State Fault Refusal := .next (enterCodec .a85 s)

/-- `LZW_PRIMARY` on the working buffer, if present (R253). -/
def lzwPrimary (s : State) : Option Bytes := if s.cfg.lzwPrimaryPresent then Config.lzwPrimary s.cur else none

/-- `LZWDecode` (R252, R253): the primary path where it is present and succeeds, else the engine of 43_lzw.md. -/
def execLzwDecode (s : State) : Host.Outcome State Fault Refusal :=
  .next (match lzwPrimary s with
    | some o => deliver 3 o s
    | none => enterCodec .lzw (if s.cfg.lzwPrimaryPresent then setLzwFallback s else s))

/-- `RunLengthDecode` (R297). -/
def execRunLengthDecode (s : State) : Host.Outcome State Fault Refusal := .next (enterCodec .rl s)

/-- `DCTDecode` (R137): the bytes pass through. -/
def execDctDecode (s : State) : Host.Outcome State Fault Refusal := .next (finishStage 5 s.cur s)

/-- `CCITTFaxDecode` in the generic list (R138): the bytes pass through. -/
def execCcittFaxDecode (s : State) : Host.Outcome State Fault Refusal := .next (finishStage 6 s.cur s)

/-- `JBIG2Decode` (R139): the bytes pass through. -/
def execJbig2Decode (s : State) : Host.Outcome State Fault Refusal := .next (finishStage 7 s.cur s)

/-- Every other slot content (R92, R133): `UnsupportedFilter`, before anything of the stage is processed. -/
def execFnameUnknown (_slot : Bytes) (s : State) : Host.Outcome State Fault Refusal := .next (raise .unsupported 15 s)

end Sys2Proof.Machine
end

