-- ==== Sys2Proof/Machine/Inflate.lean ====
section
/-! DEFINITION. The inflate engine (42_inflate_engine.md): zlib wrapper, block headers, code lengths, literals, matches. -/

namespace Sys2Proof.Machine

open Sys2Proof

/-- `ZLIB_HDR` (R194, R195). -/
def execZlibHdr (cmf flg : Byte) (s : State) : Host.Outcome State Fault Refusal :=
  .next (match zlibHeaderError cmf flg with
    | some e => runEnd e s
    | none => goto .block s)

/-- `ZLIB_TRAILER` (R197). -/
def execZlibTrailer (v : BitVec 32) (s : State) : Host.Outcome State Fault Refusal :=
  .next (runEnd (if v.toNat = adler32 s.eng.out then .ok else .adler) s)

/-- The data of a stored block: what is present of `n` bytes goes out, and the block ends or fails (R199). -/
def storedData (n : Nat) (data : Bytes) (s : State) : State :=
  emit 0 (data.take n) s fun t =>
    let u : State := { t with eng := { t.eng with bitPos := t.eng.bitPos + 8 * (data.take n).length } }
    if data.length < n then runEnd .eof u else blockEnd u

/-- `StoredBlock` (R199) at a byte boundary: LEN and NLEN, two bytes each, the low byte first (R65). -/
def storedBlock (s : State) : State :=
  match s.eng.src.drop (s.eng.bitPos / 8) with
  | l0 :: l1 :: n0 :: n1 :: data =>
    if l0.toNat + 256 * l1.toNat ≠ (n0.toNat + 256 * n1.toNat) ^^^ 0xFFFF then runEnd .storedLen s
    else
      storedData (l0.toNat + 256 * l1.toNat) data { s with eng := { s.eng with bitPos := s.eng.bitPos + 32 } }
  | _ => runEnd .eof s

/-- Remember BFINAL (R198). -/
def setFinal (final : Bool) (s : State) : State := setInflate (fun r => { r with bfinal := final }) s

/-- `BLK_STORED` (R199). -/
def execBlkStored (final : Bool) (s : State) : Host.Outcome State Fault Refusal :=
  .next (storedBlock (alignBits (setFinal final s)))

/-- `BLK_FIXED` (R200). -/
def execBlkFixed (final : Bool) (s : State) : Host.Outcome State Fault Refusal :=
  .next (goto .llSym (setInflate (fun r => { r with bfinal := final, ll := fixedLl, dd := fixedDd }) s))

/-- `BLK_DYNAMIC` (R201): the header comes next. -/
def execBlkDynamic (final : Bool) (s : State) : Host.Outcome State Fault Refusal :=
  .next (goto .dynHdr (setFinal final s))

/-- The reserved block type (R198). -/
def execBlkReserved (final : Bool) (s : State) : Host.Outcome State Fault Refusal :=
  .next (runEnd .btype (setFinal final s))

/-- `DYN_HDR` (R201): the counts are checked, the lengths of the code-length code are read and its table is built. -/
def execDynHdr (hlit hdist : BitVec 5) (hclen : BitVec 4) (s : State) : Host.Outcome State Fault Refusal :=
  .next (if 286 < hlit.toNat + 257 ∨ 30 < hdist.toNat + 1 then runEnd .tooMany s
    else
      match readTriples (hclen.toNat + 4) ((streamL s.eng.src).drop s.eng.bitPos) with
      | none => runEnd .eof s
      | some triples =>
        match buildCode .cl (clLengths triples) with
        | .error e => runEnd e s
        | .ok clt =>
          goto .clSym (setInflate
            (fun r => { r with hlit := hlit.toNat + 257, hdist := hdist.toNat + 1, clt := clt, lens := [] })
            { s with eng := { s.eng with bitPos := s.eng.bitPos + 3 * (hclen.toNat + 4) } }))

/-- `CL_LEN` (R201). -/
def execClLen (l : BitVec 4) (s : State) : Host.Outcome State Fault Refusal := .next (addLengths l.toNat 1 s)

/-- `CL_COPY` (R201): the previous length again, 3 to 6 times. -/
def execClCopy (x : BitVec 2) (s : State) : Host.Outcome State Fault Refusal :=
  .next (match s.eng.inflate.lens.getLast? with
    | none => runEnd .badRepeat s
    | some v => addLengths v (3 + x.toNat) s)

/-- `CL_ZEROS3` (R201): 3 to 10 lengths 0. -/
def execClZero3 (x : BitVec 3) (s : State) : Host.Outcome State Fault Refusal := .next (addLengths 0 (3 + x.toNat) s)

/-- `CL_ZEROS11` (R201): 11 to 138 lengths 0. -/
def execClZero11 (x : BitVec 7) (s : State) : Host.Outcome State Fault Refusal :=
  .next (addLengths 0 (11 + x.toNat) s)

/-- `LIT` (R204). -/
def execLit (b : Byte) (s : State) : Host.Outcome State Fault Refusal := .next (emit 0 [b] s (goto .llSym))

/-- `EOB` (R204). -/
def execEob (s : State) : Host.Outcome State Fault Refusal := .next (blockEnd s)

/-- Length symbol 257 (R203). -/
def execLen257 (s : State) : Host.Outcome State Fault Refusal := .next (matchLength 3 s)

/-- Length symbol 258 (R203). -/
def execLen258 (s : State) : Host.Outcome State Fault Refusal := .next (matchLength 4 s)

/-- Length symbol 259 (R203). -/
def execLen259 (s : State) : Host.Outcome State Fault Refusal := .next (matchLength 5 s)

/-- Length symbol 260 (R203). -/
def execLen260 (s : State) : Host.Outcome State Fault Refusal := .next (matchLength 6 s)

/-- Length symbol 261 (R203). -/
def execLen261 (s : State) : Host.Outcome State Fault Refusal := .next (matchLength 7 s)

/-- Length symbol 262 (R203). -/
def execLen262 (s : State) : Host.Outcome State Fault Refusal := .next (matchLength 8 s)

/-- Length symbol 263 (R203). -/
def execLen263 (s : State) : Host.Outcome State Fault Refusal := .next (matchLength 9 s)

/-- Length symbol 264 (R203). -/
def execLen264 (s : State) : Host.Outcome State Fault Refusal := .next (matchLength 10 s)

/-- Length symbol 265 (R203). -/
def execLen265 (x : BitVec 1) (s : State) : Host.Outcome State Fault Refusal := .next (matchLength (11 + x.toNat) s)

/-- Length symbol 266 (R203). -/
def execLen266 (x : BitVec 1) (s : State) : Host.Outcome State Fault Refusal := .next (matchLength (13 + x.toNat) s)

/-- Length symbol 267 (R203). -/
def execLen267 (x : BitVec 1) (s : State) : Host.Outcome State Fault Refusal := .next (matchLength (15 + x.toNat) s)

/-- Length symbol 268 (R203). -/
def execLen268 (x : BitVec 1) (s : State) : Host.Outcome State Fault Refusal := .next (matchLength (17 + x.toNat) s)

/-- Length symbol 269 (R203). -/
def execLen269 (x : BitVec 2) (s : State) : Host.Outcome State Fault Refusal := .next (matchLength (19 + x.toNat) s)

/-- Length symbol 270 (R203). -/
def execLen270 (x : BitVec 2) (s : State) : Host.Outcome State Fault Refusal := .next (matchLength (23 + x.toNat) s)

/-- Length symbol 271 (R203). -/
def execLen271 (x : BitVec 2) (s : State) : Host.Outcome State Fault Refusal := .next (matchLength (27 + x.toNat) s)

/-- Length symbol 272 (R203). -/
def execLen272 (x : BitVec 2) (s : State) : Host.Outcome State Fault Refusal := .next (matchLength (31 + x.toNat) s)

/-- Length symbol 273 (R203). -/
def execLen273 (x : BitVec 3) (s : State) : Host.Outcome State Fault Refusal := .next (matchLength (35 + x.toNat) s)

/-- Length symbol 274 (R203). -/
def execLen274 (x : BitVec 3) (s : State) : Host.Outcome State Fault Refusal := .next (matchLength (43 + x.toNat) s)

/-- Length symbol 275 (R203). -/
def execLen275 (x : BitVec 3) (s : State) : Host.Outcome State Fault Refusal := .next (matchLength (51 + x.toNat) s)

/-- Length symbol 276 (R203). -/
def execLen276 (x : BitVec 3) (s : State) : Host.Outcome State Fault Refusal := .next (matchLength (59 + x.toNat) s)

/-- Length symbol 277 (R203). -/
def execLen277 (x : BitVec 4) (s : State) : Host.Outcome State Fault Refusal := .next (matchLength (67 + x.toNat) s)

/-- Length symbol 278 (R203). -/
def execLen278 (x : BitVec 4) (s : State) : Host.Outcome State Fault Refusal := .next (matchLength (83 + x.toNat) s)

/-- Length symbol 279 (R203). -/
def execLen279 (x : BitVec 4) (s : State) : Host.Outcome State Fault Refusal := .next (matchLength (99 + x.toNat) s)

/-- Length symbol 280 (R203). -/
def execLen280 (x : BitVec 4) (s : State) : Host.Outcome State Fault Refusal := .next (matchLength (115 + x.toNat) s)

/-- Length symbol 281 (R203). -/
def execLen281 (x : BitVec 5) (s : State) : Host.Outcome State Fault Refusal := .next (matchLength (131 + x.toNat) s)

/-- Length symbol 282 (R203). -/
def execLen282 (x : BitVec 5) (s : State) : Host.Outcome State Fault Refusal := .next (matchLength (163 + x.toNat) s)

/-- Length symbol 283 (R203). -/
def execLen283 (x : BitVec 5) (s : State) : Host.Outcome State Fault Refusal := .next (matchLength (195 + x.toNat) s)

/-- Length symbol 284 (R203). -/
def execLen284 (x : BitVec 5) (s : State) : Host.Outcome State Fault Refusal := .next (matchLength (227 + x.toNat) s)

/-- Length symbol 285 (R203). -/
def execLen285 (s : State) : Host.Outcome State Fault Refusal := .next (matchLength 258 s)

/-- Symbols 286 and 287 (R204). -/
def execLlIllegal (_x : BitVec 1) (s : State) : Host.Outcome State Fault Refusal := .next (runEnd .badLlsym s)

/-- Distance symbol 0 (R203). -/
def execDist0 (s : State) : Host.Outcome State Fault Refusal := .next (matchDistance 1 s)

/-- Distance symbol 1 (R203). -/
def execDist1 (s : State) : Host.Outcome State Fault Refusal := .next (matchDistance 2 s)

/-- Distance symbol 2 (R203). -/
def execDist2 (s : State) : Host.Outcome State Fault Refusal := .next (matchDistance 3 s)

/-- Distance symbol 3 (R203). -/
def execDist3 (s : State) : Host.Outcome State Fault Refusal := .next (matchDistance 4 s)

/-- Distance symbol 4 (R203). -/
def execDist4 (x : BitVec 1) (s : State) : Host.Outcome State Fault Refusal := .next (matchDistance (5 + x.toNat) s)

/-- Distance symbol 5 (R203). -/
def execDist5 (x : BitVec 1) (s : State) : Host.Outcome State Fault Refusal := .next (matchDistance (7 + x.toNat) s)

/-- Distance symbol 6 (R203). -/
def execDist6 (x : BitVec 2) (s : State) : Host.Outcome State Fault Refusal := .next (matchDistance (9 + x.toNat) s)

/-- Distance symbol 7 (R203). -/
def execDist7 (x : BitVec 2) (s : State) : Host.Outcome State Fault Refusal := .next (matchDistance (13 + x.toNat) s)

/-- Distance symbol 8 (R203). -/
def execDist8 (x : BitVec 3) (s : State) : Host.Outcome State Fault Refusal := .next (matchDistance (17 + x.toNat) s)

/-- Distance symbol 9 (R203). -/
def execDist9 (x : BitVec 3) (s : State) : Host.Outcome State Fault Refusal := .next (matchDistance (25 + x.toNat) s)

/-- Distance symbol 10 (R203). -/
def execDist10 (x : BitVec 4) (s : State) : Host.Outcome State Fault Refusal := .next (matchDistance (33 + x.toNat) s)

/-- Distance symbol 11 (R203). -/
def execDist11 (x : BitVec 4) (s : State) : Host.Outcome State Fault Refusal := .next (matchDistance (49 + x.toNat) s)

/-- Distance symbol 12 (R203). -/
def execDist12 (x : BitVec 5) (s : State) : Host.Outcome State Fault Refusal := .next (matchDistance (65 + x.toNat) s)

/-- Distance symbol 13 (R203). -/
def execDist13 (x : BitVec 5) (s : State) : Host.Outcome State Fault Refusal := .next (matchDistance (97 + x.toNat) s)

/-- Distance symbol 14 (R203). -/
def execDist14 (x : BitVec 6) (s : State) : Host.Outcome State Fault Refusal :=
  .next (matchDistance (129 + x.toNat) s)

/-- Distance symbol 15 (R203). -/
def execDist15 (x : BitVec 6) (s : State) : Host.Outcome State Fault Refusal :=
  .next (matchDistance (193 + x.toNat) s)

/-- Distance symbol 16 (R203). -/
def execDist16 (x : BitVec 7) (s : State) : Host.Outcome State Fault Refusal :=
  .next (matchDistance (257 + x.toNat) s)

/-- Distance symbol 17 (R203). -/
def execDist17 (x : BitVec 7) (s : State) : Host.Outcome State Fault Refusal :=
  .next (matchDistance (385 + x.toNat) s)

/-- Distance symbol 18 (R203). -/
def execDist18 (x : BitVec 8) (s : State) : Host.Outcome State Fault Refusal :=
  .next (matchDistance (513 + x.toNat) s)

/-- Distance symbol 19 (R203). -/
def execDist19 (x : BitVec 8) (s : State) : Host.Outcome State Fault Refusal :=
  .next (matchDistance (769 + x.toNat) s)

/-- Distance symbol 20 (R203). -/
def execDist20 (x : BitVec 9) (s : State) : Host.Outcome State Fault Refusal :=
  .next (matchDistance (1025 + x.toNat) s)

/-- Distance symbol 21 (R203). -/
def execDist21 (x : BitVec 9) (s : State) : Host.Outcome State Fault Refusal :=
  .next (matchDistance (1537 + x.toNat) s)

/-- Distance symbol 22 (R203). -/
def execDist22 (x : BitVec 10) (s : State) : Host.Outcome State Fault Refusal :=
  .next (matchDistance (2049 + x.toNat) s)

/-- Distance symbol 23 (R203). -/
def execDist23 (x : BitVec 10) (s : State) : Host.Outcome State Fault Refusal :=
  .next (matchDistance (3073 + x.toNat) s)

/-- Distance symbol 24 (R203). -/
def execDist24 (x : BitVec 11) (s : State) : Host.Outcome State Fault Refusal :=
  .next (matchDistance (4097 + x.toNat) s)

/-- Distance symbol 25 (R203). -/
def execDist25 (x : BitVec 11) (s : State) : Host.Outcome State Fault Refusal :=
  .next (matchDistance (6145 + x.toNat) s)

/-- Distance symbol 26 (R203). -/
def execDist26 (x : BitVec 12) (s : State) : Host.Outcome State Fault Refusal :=
  .next (matchDistance (8193 + x.toNat) s)

/-- Distance symbol 27 (R203). -/
def execDist27 (x : BitVec 12) (s : State) : Host.Outcome State Fault Refusal :=
  .next (matchDistance (12289 + x.toNat) s)

/-- Distance symbol 28 (R203). -/
def execDist28 (x : BitVec 13) (s : State) : Host.Outcome State Fault Refusal :=
  .next (matchDistance (16385 + x.toNat) s)

/-- Distance symbol 29 (R203). -/
def execDist29 (x : BitVec 13) (s : State) : Host.Outcome State Fault Refusal :=
  .next (matchDistance (24577 + x.toNat) s)

/-- Distance symbols 30 and 31 (R204). -/
def execDIllegal (_x : BitVec 1) (s : State) : Host.Outcome State Fault Refusal := .next (runEnd .badDsym s)

end Sys2Proof.Machine
end

