-- ==== Sys2Proof/Machine/Ladder.lean ====
section
/-! DEFINITION. The strategies of the Flate ladder (41_flate_ladder.md R164 to R170), each a run over the stage input `CUR`. -/

namespace Sys2Proof.Machine

open Sys2Proof

/-- `FLATE_S1` (R164): standard zlib. -/
def execFlateS1 (s : State) : Host.Outcome State Fault Refusal := .next (beginRun true s.cur 0 (setStrategy 1 s))

/-- `FLATE_S2` (R165): raw deflate over the full buffer. -/
def execFlateS2 (s : State) : Host.Outcome State Fault Refusal := .next (beginRun false s.cur 0 (setStrategy 2 s))

/-- `FLATE_S3` (R166): raw deflate after the first two bytes. -/
def execFlateS3 (s : State) : Host.Outcome State Fault Refusal := .next (beginRun false s.cur 2 (setStrategy 3 s))

/-- `FLATE_S4` (R167). -/
def execFlateS4 (s : State) : Host.Outcome State Fault Refusal :=
  .next (alternative 4 s.cfg.altInflate4Present Config.altInflate4 (setStrategy 4 s))

/-- `FLATE_S5` (R168). -/
def execFlateS5 (s : State) : Host.Outcome State Fault Refusal :=
  .next (alternative 5 s.cfg.altInflate5Present Config.altInflate5 (setStrategy 5 s))

/-- `FLATE_S6` (R169): zlib with a repaired header, where the header needs it. -/
def execFlateS6 (s : State) : Host.Outcome State Fault Refusal :=
  .next (if needsRepair s.cur then beginRun true (repairHeader s.cur) 0 (setStrategy 6 s)
    else failStrategy .empty (setStrategy 6 s))

/-- `FLATE_S7` (R170): the offset scan, from offset 1. -/
def execFlateS7 (s : State) : Host.Outcome State Fault Refusal :=
  .next (beginRun false s.cur 1
    { s with eng := { s.eng with ladder := { s.eng.ladder with step := 7, off := 1 } } })

end Sys2Proof.Machine
end

