-- ==== Sys2Proof/Machine/Lzw.lean ====
section
/-! DEFINITION. The LZW codes (43_lzw.md). -/

namespace Sys2Proof.Machine

open Sys2Proof

/-- `LZW_LIT` (R257): the one-byte string of a literal. -/
def execLzwLit (b : Byte) (s : State) : Host.Outcome State Fault Refusal := .next (lzwData [b] s)

/-- `LZW_CLEAR` (R256): `Init`; the cursor is not touched. -/
def execLzwClear (s : State) : Host.Outcome State Fault Refusal :=
  .next ({ s with eng := { s.eng with lzw := LzwRegs.init } })

/-- `LZW_EOD` (R256): the stage ends with the output so far. -/
def execLzwEod (s : State) : Host.Outcome State Fault Refusal := .next (finishStage 3 s.eng.out s)

/-- `LZW_REF` (R257): the string of the table. -/
def execLzwRef (c : BitVec 16) (s : State) : Host.Outcome State Fault Refusal :=
  .next (match lzwString s.eng.lzw c.toNat with
    | some str => lzwData str s
    | none => lzwInvalid c.toNat s)

/-- `LZW_KWKWK` (R257): the previous string and its first byte. At NEXT_CODE = 4096, which only a code of 13 or more bits
can name, the pseudocode of R257 goes on and its list of faults names the code: the model takes the fault
(DEDUCED, log 31). -/
def execLzwKwkwk (s : State) : Host.Outcome State Fault Refusal :=
  .next (match s.eng.lzw.prev with
    | some p => if s.eng.lzw.nextCode < 4096 then lzwData (p ++ p.take 1) s else lzwInvalid s.eng.lzw.nextCode s
    | none => lzwInvalid s.eng.lzw.nextCode s)

/-- A code that is neither in the table nor the next one after a data code (R257). -/
def execLzwIllegal (c : BitVec 16) (s : State) : Host.Outcome State Fault Refusal := .next (lzwInvalid c.toNat s)

end Sys2Proof.Machine
end

