-- ==== Sys2Proof/Machine/Predictor.lean ====
section
/-! DEFINITION. The predictor selectors and the predictor rows (45_predictor.md). -/

namespace Sys2Proof.Machine

open Sys2Proof

/-- `PRED_NONE` (R140, R323): the identity. -/
def execPredNone (s : State) : Host.Outcome State Fault Refusal := .next (finishPredictor s.cur s)

/-- `PRED_TIFF` (R325). -/
def execPredTiff (s : State) : Host.Outcome State Fault Refusal :=
  .next (enterPredictor 2 (pixelBytes s.j.desc) none .tiffRow s)

/-- `PRED_PNG_NONE` (R327, R328): every row has the implied tag 0. -/
def execPredPngNone (s : State) : Host.Outcome State Fault Refusal :=
  .next (enterPredictor 10 (pixelBytes s.j.desc + 1) (some 0) .pngRow s)

/-- `PRED_PNG_SUB` (R327, R328): every row has the implied tag 1. -/
def execPredPngSub (s : State) : Host.Outcome State Fault Refusal :=
  .next (enterPredictor 11 (pixelBytes s.j.desc + 1) (some 1) .pngRow s)

/-- `PRED_PNG_UP` (R327, R328): every row has the implied tag 2. -/
def execPredPngUp (s : State) : Host.Outcome State Fault Refusal :=
  .next (enterPredictor 12 (pixelBytes s.j.desc + 1) (some 2) .pngRow s)

/-- `PRED_PNG_AVG` (R327, R328): every row has the implied tag 3. -/
def execPredPngAvg (s : State) : Host.Outcome State Fault Refusal :=
  .next (enterPredictor 13 (pixelBytes s.j.desc + 1) (some 3) .pngRow s)

/-- `PRED_PNG_PAETH` (R327, R328): every row has the implied tag 4. -/
def execPredPngPaeth (s : State) : Host.Outcome State Fault Refusal :=
  .next (enterPredictor 14 (pixelBytes s.j.desc + 1) (some 4) .pngRow s)

/-- `PRED_PNG_OPT` (R327, R328): every row has the tag of its tag byte. -/
def execPredPngOpt (s : State) : Host.Outcome State Fault Refusal :=
  .next (enterPredictor 15 (pixelBytes s.j.desc + 1) none .pngRow s)

/-- Every other selector (R322). -/
def execPredIllegal (p : BitVec 32) (s : State) : Host.Outcome State Fault Refusal := .next (badParams p.toNat s)

/-- A row with tag 0, `PNG_NONE` (R329). -/
def execPngNone (s : State) : Host.Outcome State Fault Refusal := .next (pngRowWith 0 s)

/-- A row with tag 1, `PNG_SUB` (R330). -/
def execPngSub (s : State) : Host.Outcome State Fault Refusal := .next (pngRowWith 1 s)

/-- A row with tag 2, `PNG_UP` (R331). -/
def execPngUp (s : State) : Host.Outcome State Fault Refusal := .next (pngRowWith 2 s)

/-- A row with tag 3, `PNG_AVERAGE` (R332). -/
def execPngAverage (s : State) : Host.Outcome State Fault Refusal := .next (pngRowWith 3 s)

/-- A row with tag 4, `PNG_PAETH` (R333). -/
def execPngPaeth (s : State) : Host.Outcome State Fault Refusal := .next (pngRowWith 4 s)

/-- A tag above 4 (R328). -/
def execPngTagIllegal (tag : Byte) (s : State) : Host.Outcome State Fault Refusal :=
  .next (raise (.predBadTag tag.toNat s.eng.pred.row) 8 s)

/-- A TIFF row (R325): it leaves the registers of the PNG rows alone, since nothing carries from one TIFF row to the next
(R43). -/
def execTiffRow (s : State) : Host.Outcome State Fault Refusal :=
  .next (finishRow (tiffDecodeRow (bytesPerPixel s.j.desc) [] (rowBytes s)) s.eng.pred s)

end Sys2Proof.Machine
end

