-- ==== Sys2Proof/Machine/Simple.lean ====
section
/-! DEFINITION. RunLength, ASCIIHex and ASCII85 (44_simple_codecs.md). -/

namespace Sys2Proof.Machine

open Sys2Proof

/-- `RL_LITERAL` (R298): the next `n + 1` bytes, or `RL_TRUNC_LITERAL`. -/
def execRlLiteral (n : BitVec 7) (s : State) : Host.Outcome State Fault Refusal :=
  .next (if s.eng.src.length < s.eng.bytePos + (n.toNat + 1) then
      raise (.rlTruncLiteral (n.toNat + 1) (s.eng.src.length - s.eng.bytePos)) 4 s
    else
      emit 4 ((s.eng.src.drop s.eng.bytePos).take (n.toNat + 1)) s fun t =>
        { t with eng := { t.eng with bytePos := t.eng.bytePos + (n.toNat + 1) } })

/-- `RL_EOD` (R299). -/
def execRlEod (s : State) : Host.Outcome State Fault Refusal := .next (finishStage 4 s.eng.out s)

/-- `RL_REPEAT` (R300): the next byte `257 - L` times, with `L = 128 + n`; or `RL_TRUNC_REPEAT`. -/
def execRlRepeat (n : BitVec 7) (s : State) : Host.Outcome State Fault Refusal :=
  .next (match s.eng.src[s.eng.bytePos]? with
    | none => raise .rlTruncRepeat 4 s
    | some b =>
      emit 4 (List.replicate (257 - (128 + n.toNat)) b) s fun t =>
        { t with eng := { t.eng with bytePos := t.eng.bytePos + 1 } })

/-- `HEX_WS` (R282): removed. -/
def execHexWs (_c : Byte) (s : State) : Host.Outcome State Fault Refusal := .next (s)

/-- `HEX_DIGIT` (R281, R283): the first digit of a pair is the high nibble. -/
def execHexDigit (c : Byte) (s : State) : Host.Outcome State Fault Refusal :=
  .next (match hexVal c, s.eng.hi with
    | none, _ => raise (.hexBadChar c) 1 s
    | some v, none => { s with eng := { s.eng with hi := some v } }
    | some v, some h =>
      emit 1 [BitVec.ofNat 8 (16 * h.toNat + v.toNat)] s fun t => { t with eng := { t.eng with hi := none } })

/-- `HEX_EOD` (R282): the trailing `>` is removed. -/
def execHexEod (s : State) : Host.Outcome State Fault Refusal := .next (s)

/-- Any other character (R284). -/
def execHexIllegal (c : Byte) (s : State) : Host.Outcome State Fault Refusal := .next (raise (.hexBadChar c) 1 s)

/-- `A85_WS` (R289): ignored. -/
def execA85Ws (_c : Byte) (s : State) : Host.Outcome State Fault Refusal := .next (s)

/-- `A85_DIGIT` (R290): the fifth digit of a group emits it. -/
def execA85Digit (c : Byte) (s : State) : Host.Outcome State Fault Refusal :=
  .next (if s.eng.ngrp + 1 = 5 then emitGroup 4 (85 * s.eng.acc + (c.toNat - 0x21)) s id
    else
      { s with eng := { s.eng with acc := 85 * s.eng.acc + (c.toNat - 0x21), ngrp := s.eng.ngrp + 1 } })

/-- `A85_Z` (R292): four zero bytes, only between groups. -/
def execA85Z (s : State) : Host.Outcome State Fault Refusal :=
  .next (if s.eng.ngrp ≠ 0 then raise .a85ZMidgroup 2 s else emit 2 [0, 0, 0, 0] s id)

/-- `A85_TERM` (R293): the final group, and the end of the stage. -/
def execA85Term (s : State) : Host.Outcome State Fault Refusal := .next (a85End s)

/-- Any other character (R294). -/
def execA85Illegal (c : Byte) (s : State) : Host.Outcome State Fault Refusal := .next (raise (.a85BadChar c) 2 s)

end Sys2Proof.Machine
end

