-- ==== Sys2Proof/Machine/Dispatch.lean ====
section
/-! DEFINITION. One arm for each constructor of Instr, each one call of its meaning. -/

namespace Sys2Proof.Machine

open Sys2Proof

def exec (i : Instr) (s : State) : Host.Outcome State Fault Refusal :=
  match i with
  | .decodeStream => Sys2Proof.Machine.execDecodeStream s
  | .decodeStreamOpt => Sys2Proof.Machine.execDecodeStreamOpt s
  | .ccittDecode => Sys2Proof.Machine.execCcittDecode s
  | .ccittGray => Sys2Proof.Machine.execCcittGray s
  | .ack => Sys2Proof.Machine.execAck s
  | .flateDecode => Sys2Proof.Machine.execFlateDecode s
  | .asciiHexDecode => Sys2Proof.Machine.execAsciiHexDecode s
  | .ascii85Decode => Sys2Proof.Machine.execAscii85Decode s
  | .lzwDecode => Sys2Proof.Machine.execLzwDecode s
  | .runLengthDecode => Sys2Proof.Machine.execRunLengthDecode s
  | .dctDecode => Sys2Proof.Machine.execDctDecode s
  | .ccittFaxDecode => Sys2Proof.Machine.execCcittFaxDecode s
  | .jbig2Decode => Sys2Proof.Machine.execJbig2Decode s
  | .fnameUnknown slot => Sys2Proof.Machine.execFnameUnknown slot s
  | .predNone => Sys2Proof.Machine.execPredNone s
  | .predTiff => Sys2Proof.Machine.execPredTiff s
  | .predPngNone => Sys2Proof.Machine.execPredPngNone s
  | .predPngSub => Sys2Proof.Machine.execPredPngSub s
  | .predPngUp => Sys2Proof.Machine.execPredPngUp s
  | .predPngAvg => Sys2Proof.Machine.execPredPngAvg s
  | .predPngPaeth => Sys2Proof.Machine.execPredPngPaeth s
  | .predPngOpt => Sys2Proof.Machine.execPredPngOpt s
  | .predIllegal p => Sys2Proof.Machine.execPredIllegal p s
  | .flateS1 => Sys2Proof.Machine.execFlateS1 s
  | .flateS2 => Sys2Proof.Machine.execFlateS2 s
  | .flateS3 => Sys2Proof.Machine.execFlateS3 s
  | .flateS4 => Sys2Proof.Machine.execFlateS4 s
  | .flateS5 => Sys2Proof.Machine.execFlateS5 s
  | .flateS6 => Sys2Proof.Machine.execFlateS6 s
  | .flateS7 => Sys2Proof.Machine.execFlateS7 s
  | .zlibHdr cmf flg => Sys2Proof.Machine.execZlibHdr cmf flg s
  | .zlibTrailer v => Sys2Proof.Machine.execZlibTrailer v s
  | .blkStored final => Sys2Proof.Machine.execBlkStored final s
  | .blkFixed final => Sys2Proof.Machine.execBlkFixed final s
  | .blkDynamic final => Sys2Proof.Machine.execBlkDynamic final s
  | .blkReserved final => Sys2Proof.Machine.execBlkReserved final s
  | .dynHdr hlit hdist hclen => Sys2Proof.Machine.execDynHdr hlit hdist hclen s
  | .clLen l => Sys2Proof.Machine.execClLen l s
  | .clCopy x => Sys2Proof.Machine.execClCopy x s
  | .clZero3 x => Sys2Proof.Machine.execClZero3 x s
  | .clZero11 x => Sys2Proof.Machine.execClZero11 x s
  | .lit b => Sys2Proof.Machine.execLit b s
  | .eob => Sys2Proof.Machine.execEob s
  | .len257 => Sys2Proof.Machine.execLen257 s
  | .len258 => Sys2Proof.Machine.execLen258 s
  | .len259 => Sys2Proof.Machine.execLen259 s
  | .len260 => Sys2Proof.Machine.execLen260 s
  | .len261 => Sys2Proof.Machine.execLen261 s
  | .len262 => Sys2Proof.Machine.execLen262 s
  | .len263 => Sys2Proof.Machine.execLen263 s
  | .len264 => Sys2Proof.Machine.execLen264 s
  | .len265 x => Sys2Proof.Machine.execLen265 x s
  | .len266 x => Sys2Proof.Machine.execLen266 x s
  | .len267 x => Sys2Proof.Machine.execLen267 x s
  | .len268 x => Sys2Proof.Machine.execLen268 x s
  | .len269 x => Sys2Proof.Machine.execLen269 x s
  | .len270 x => Sys2Proof.Machine.execLen270 x s
  | .len271 x => Sys2Proof.Machine.execLen271 x s
  | .len272 x => Sys2Proof.Machine.execLen272 x s
  | .len273 x => Sys2Proof.Machine.execLen273 x s
  | .len274 x => Sys2Proof.Machine.execLen274 x s
  | .len275 x => Sys2Proof.Machine.execLen275 x s
  | .len276 x => Sys2Proof.Machine.execLen276 x s
  | .len277 x => Sys2Proof.Machine.execLen277 x s
  | .len278 x => Sys2Proof.Machine.execLen278 x s
  | .len279 x => Sys2Proof.Machine.execLen279 x s
  | .len280 x => Sys2Proof.Machine.execLen280 x s
  | .len281 x => Sys2Proof.Machine.execLen281 x s
  | .len282 x => Sys2Proof.Machine.execLen282 x s
  | .len283 x => Sys2Proof.Machine.execLen283 x s
  | .len284 x => Sys2Proof.Machine.execLen284 x s
  | .len285 => Sys2Proof.Machine.execLen285 s
  | .llIllegal x => Sys2Proof.Machine.execLlIllegal x s
  | .dist0 => Sys2Proof.Machine.execDist0 s
  | .dist1 => Sys2Proof.Machine.execDist1 s
  | .dist2 => Sys2Proof.Machine.execDist2 s
  | .dist3 => Sys2Proof.Machine.execDist3 s
  | .dist4 x => Sys2Proof.Machine.execDist4 x s
  | .dist5 x => Sys2Proof.Machine.execDist5 x s
  | .dist6 x => Sys2Proof.Machine.execDist6 x s
  | .dist7 x => Sys2Proof.Machine.execDist7 x s
  | .dist8 x => Sys2Proof.Machine.execDist8 x s
  | .dist9 x => Sys2Proof.Machine.execDist9 x s
  | .dist10 x => Sys2Proof.Machine.execDist10 x s
  | .dist11 x => Sys2Proof.Machine.execDist11 x s
  | .dist12 x => Sys2Proof.Machine.execDist12 x s
  | .dist13 x => Sys2Proof.Machine.execDist13 x s
  | .dist14 x => Sys2Proof.Machine.execDist14 x s
  | .dist15 x => Sys2Proof.Machine.execDist15 x s
  | .dist16 x => Sys2Proof.Machine.execDist16 x s
  | .dist17 x => Sys2Proof.Machine.execDist17 x s
  | .dist18 x => Sys2Proof.Machine.execDist18 x s
  | .dist19 x => Sys2Proof.Machine.execDist19 x s
  | .dist20 x => Sys2Proof.Machine.execDist20 x s
  | .dist21 x => Sys2Proof.Machine.execDist21 x s
  | .dist22 x => Sys2Proof.Machine.execDist22 x s
  | .dist23 x => Sys2Proof.Machine.execDist23 x s
  | .dist24 x => Sys2Proof.Machine.execDist24 x s
  | .dist25 x => Sys2Proof.Machine.execDist25 x s
  | .dist26 x => Sys2Proof.Machine.execDist26 x s
  | .dist27 x => Sys2Proof.Machine.execDist27 x s
  | .dist28 x => Sys2Proof.Machine.execDist28 x s
  | .dist29 x => Sys2Proof.Machine.execDist29 x s
  | .dIllegal x => Sys2Proof.Machine.execDIllegal x s
  | .lzwLit b => Sys2Proof.Machine.execLzwLit b s
  | .lzwClear => Sys2Proof.Machine.execLzwClear s
  | .lzwEod => Sys2Proof.Machine.execLzwEod s
  | .lzwRef c => Sys2Proof.Machine.execLzwRef c s
  | .lzwKwkwk => Sys2Proof.Machine.execLzwKwkwk s
  | .lzwIllegal c => Sys2Proof.Machine.execLzwIllegal c s
  | .rlLiteral n => Sys2Proof.Machine.execRlLiteral n s
  | .rlEod => Sys2Proof.Machine.execRlEod s
  | .rlRepeat n => Sys2Proof.Machine.execRlRepeat n s
  | .hexWs c => Sys2Proof.Machine.execHexWs c s
  | .hexDigit c => Sys2Proof.Machine.execHexDigit c s
  | .hexEod => Sys2Proof.Machine.execHexEod s
  | .hexIllegal c => Sys2Proof.Machine.execHexIllegal c s
  | .a85Ws c => Sys2Proof.Machine.execA85Ws c s
  | .a85Digit c => Sys2Proof.Machine.execA85Digit c s
  | .a85Z => Sys2Proof.Machine.execA85Z s
  | .a85Term => Sys2Proof.Machine.execA85Term s
  | .a85Illegal c => Sys2Proof.Machine.execA85Illegal c s
  | .pngNone => Sys2Proof.Machine.execPngNone s
  | .pngSub => Sys2Proof.Machine.execPngSub s
  | .pngUp => Sys2Proof.Machine.execPngUp s
  | .pngAverage => Sys2Proof.Machine.execPngAverage s
  | .pngPaeth => Sys2Proof.Machine.execPngPaeth s
  | .pngTagIllegal tag => Sys2Proof.Machine.execPngTagIllegal tag s
  | .tiffRow => Sys2Proof.Machine.execTiffRow s
  | .faxV0 => Sys2Proof.Machine.execFaxV0 s
  | .faxVr1 => Sys2Proof.Machine.execFaxVr1 s
  | .faxVr2 => Sys2Proof.Machine.execFaxVr2 s
  | .faxVr3 => Sys2Proof.Machine.execFaxVr3 s
  | .faxVl1 => Sys2Proof.Machine.execFaxVl1 s
  | .faxVl2 => Sys2Proof.Machine.execFaxVl2 s
  | .faxVl3 => Sys2Proof.Machine.execFaxVl3 s
  | .faxHoriz => Sys2Proof.Machine.execFaxHoriz s
  | .faxPass => Sys2Proof.Machine.execFaxPass s
  | .faxEol fill => Sys2Proof.Machine.execFaxEol fill s
  | .faxModeIllegal x => Sys2Proof.Machine.execFaxModeIllegal x s
  | .wT0 => Sys2Proof.Machine.execWT0 s
  | .wT1 => Sys2Proof.Machine.execWT1 s
  | .wT2 => Sys2Proof.Machine.execWT2 s
  | .wT3 => Sys2Proof.Machine.execWT3 s
  | .wT4 => Sys2Proof.Machine.execWT4 s
  | .wT5 => Sys2Proof.Machine.execWT5 s
  | .wT6 => Sys2Proof.Machine.execWT6 s
  | .wT7 => Sys2Proof.Machine.execWT7 s
  | .wT8 => Sys2Proof.Machine.execWT8 s
  | .wT9 => Sys2Proof.Machine.execWT9 s
  | .wT10 => Sys2Proof.Machine.execWT10 s
  | .wT11 => Sys2Proof.Machine.execWT11 s
  | .wT12 => Sys2Proof.Machine.execWT12 s
  | .wT13 => Sys2Proof.Machine.execWT13 s
  | .wT14 => Sys2Proof.Machine.execWT14 s
  | .wT15 => Sys2Proof.Machine.execWT15 s
  | .wT16 => Sys2Proof.Machine.execWT16 s
  | .wT17 => Sys2Proof.Machine.execWT17 s
  | .wT18 => Sys2Proof.Machine.execWT18 s
  | .wT19 => Sys2Proof.Machine.execWT19 s
  | .wT20 => Sys2Proof.Machine.execWT20 s
  | .wT21 => Sys2Proof.Machine.execWT21 s
  | .wT22 => Sys2Proof.Machine.execWT22 s
  | .wT23 => Sys2Proof.Machine.execWT23 s
  | .wT24 => Sys2Proof.Machine.execWT24 s
  | .wT25 => Sys2Proof.Machine.execWT25 s
  | .wT26 => Sys2Proof.Machine.execWT26 s
  | .wT27 => Sys2Proof.Machine.execWT27 s
  | .wT28 => Sys2Proof.Machine.execWT28 s
  | .wT29 => Sys2Proof.Machine.execWT29 s
  | .wT30 => Sys2Proof.Machine.execWT30 s
  | .wT31 => Sys2Proof.Machine.execWT31 s
  | .wT32 => Sys2Proof.Machine.execWT32 s
  | .wT33 => Sys2Proof.Machine.execWT33 s
  | .wT34 => Sys2Proof.Machine.execWT34 s
  | .wT35 => Sys2Proof.Machine.execWT35 s
  | .wT36 => Sys2Proof.Machine.execWT36 s
  | .wT37 => Sys2Proof.Machine.execWT37 s
  | .wT38 => Sys2Proof.Machine.execWT38 s
  | .wT39 => Sys2Proof.Machine.execWT39 s
  | .wT40 => Sys2Proof.Machine.execWT40 s
  | .wT41 => Sys2Proof.Machine.execWT41 s
  | .wT42 => Sys2Proof.Machine.execWT42 s
  | .wT43 => Sys2Proof.Machine.execWT43 s
  | .wT44 => Sys2Proof.Machine.execWT44 s
  | .wT45 => Sys2Proof.Machine.execWT45 s
  | .wT46 => Sys2Proof.Machine.execWT46 s
  | .wT47 => Sys2Proof.Machine.execWT47 s
  | .wT48 => Sys2Proof.Machine.execWT48 s
  | .wT49 => Sys2Proof.Machine.execWT49 s
  | .wT50 => Sys2Proof.Machine.execWT50 s
  | .wT51 => Sys2Proof.Machine.execWT51 s
  | .wT52 => Sys2Proof.Machine.execWT52 s
  | .wT53 => Sys2Proof.Machine.execWT53 s
  | .wT54 => Sys2Proof.Machine.execWT54 s
  | .wT55 => Sys2Proof.Machine.execWT55 s
  | .wT56 => Sys2Proof.Machine.execWT56 s
  | .wT57 => Sys2Proof.Machine.execWT57 s
  | .wT58 => Sys2Proof.Machine.execWT58 s
  | .wT59 => Sys2Proof.Machine.execWT59 s
  | .wT60 => Sys2Proof.Machine.execWT60 s
  | .wT61 => Sys2Proof.Machine.execWT61 s
  | .wT62 => Sys2Proof.Machine.execWT62 s
  | .wT63 => Sys2Proof.Machine.execWT63 s
  | .wM64 => Sys2Proof.Machine.execWM64 s
  | .wM128 => Sys2Proof.Machine.execWM128 s
  | .wM192 => Sys2Proof.Machine.execWM192 s
  | .wM256 => Sys2Proof.Machine.execWM256 s
  | .wM320 => Sys2Proof.Machine.execWM320 s
  | .wM384 => Sys2Proof.Machine.execWM384 s
  | .wM448 => Sys2Proof.Machine.execWM448 s
  | .wM512 => Sys2Proof.Machine.execWM512 s
  | .wM576 => Sys2Proof.Machine.execWM576 s
  | .wM640 => Sys2Proof.Machine.execWM640 s
  | .wM704 => Sys2Proof.Machine.execWM704 s
  | .wM768 => Sys2Proof.Machine.execWM768 s
  | .wM832 => Sys2Proof.Machine.execWM832 s
  | .wM896 => Sys2Proof.Machine.execWM896 s
  | .wM960 => Sys2Proof.Machine.execWM960 s
  | .wM1024 => Sys2Proof.Machine.execWM1024 s
  | .wM1088 => Sys2Proof.Machine.execWM1088 s
  | .wM1152 => Sys2Proof.Machine.execWM1152 s
  | .wM1216 => Sys2Proof.Machine.execWM1216 s
  | .wM1280 => Sys2Proof.Machine.execWM1280 s
  | .wM1344 => Sys2Proof.Machine.execWM1344 s
  | .wM1408 => Sys2Proof.Machine.execWM1408 s
  | .wM1472 => Sys2Proof.Machine.execWM1472 s
  | .wM1536 => Sys2Proof.Machine.execWM1536 s
  | .wM1600 => Sys2Proof.Machine.execWM1600 s
  | .wM1664 => Sys2Proof.Machine.execWM1664 s
  | .wM1728 => Sys2Proof.Machine.execWM1728 s
  | .bT0 => Sys2Proof.Machine.execBT0 s
  | .bT1 => Sys2Proof.Machine.execBT1 s
  | .bT2 => Sys2Proof.Machine.execBT2 s
  | .bT3 => Sys2Proof.Machine.execBT3 s
  | .bT4 => Sys2Proof.Machine.execBT4 s
  | .bT5 => Sys2Proof.Machine.execBT5 s
  | .bT6 => Sys2Proof.Machine.execBT6 s
  | .bT7 => Sys2Proof.Machine.execBT7 s
  | .bT8 => Sys2Proof.Machine.execBT8 s
  | .bT9 => Sys2Proof.Machine.execBT9 s
  | .bT10 => Sys2Proof.Machine.execBT10 s
  | .bT11 => Sys2Proof.Machine.execBT11 s
  | .bT12 => Sys2Proof.Machine.execBT12 s
  | .bT13 => Sys2Proof.Machine.execBT13 s
  | .bT14 => Sys2Proof.Machine.execBT14 s
  | .bT15 => Sys2Proof.Machine.execBT15 s
  | .bT16 => Sys2Proof.Machine.execBT16 s
  | .bT17 => Sys2Proof.Machine.execBT17 s
  | .bT18 => Sys2Proof.Machine.execBT18 s
  | .bT19 => Sys2Proof.Machine.execBT19 s
  | .bT20 => Sys2Proof.Machine.execBT20 s
  | .bT21 => Sys2Proof.Machine.execBT21 s
  | .bT22 => Sys2Proof.Machine.execBT22 s
  | .bT23 => Sys2Proof.Machine.execBT23 s
  | .bT24 => Sys2Proof.Machine.execBT24 s
  | .bT25 => Sys2Proof.Machine.execBT25 s
  | .bT26 => Sys2Proof.Machine.execBT26 s
  | .bT27 => Sys2Proof.Machine.execBT27 s
  | .bT28 => Sys2Proof.Machine.execBT28 s
  | .bT29 => Sys2Proof.Machine.execBT29 s
  | .bT30 => Sys2Proof.Machine.execBT30 s
  | .bT31 => Sys2Proof.Machine.execBT31 s
  | .bT32 => Sys2Proof.Machine.execBT32 s
  | .bT33 => Sys2Proof.Machine.execBT33 s
  | .bT34 => Sys2Proof.Machine.execBT34 s
  | .bT35 => Sys2Proof.Machine.execBT35 s
  | .bT36 => Sys2Proof.Machine.execBT36 s
  | .bT37 => Sys2Proof.Machine.execBT37 s
  | .bT38 => Sys2Proof.Machine.execBT38 s
  | .bT39 => Sys2Proof.Machine.execBT39 s
  | .bT40 => Sys2Proof.Machine.execBT40 s
  | .bT41 => Sys2Proof.Machine.execBT41 s
  | .bT42 => Sys2Proof.Machine.execBT42 s
  | .bT43 => Sys2Proof.Machine.execBT43 s
  | .bT44 => Sys2Proof.Machine.execBT44 s
  | .bT45 => Sys2Proof.Machine.execBT45 s
  | .bT46 => Sys2Proof.Machine.execBT46 s
  | .bT47 => Sys2Proof.Machine.execBT47 s
  | .bT48 => Sys2Proof.Machine.execBT48 s
  | .bT49 => Sys2Proof.Machine.execBT49 s
  | .bT50 => Sys2Proof.Machine.execBT50 s
  | .bT51 => Sys2Proof.Machine.execBT51 s
  | .bT52 => Sys2Proof.Machine.execBT52 s
  | .bT53 => Sys2Proof.Machine.execBT53 s
  | .bT54 => Sys2Proof.Machine.execBT54 s
  | .bT55 => Sys2Proof.Machine.execBT55 s
  | .bT56 => Sys2Proof.Machine.execBT56 s
  | .bT57 => Sys2Proof.Machine.execBT57 s
  | .bT58 => Sys2Proof.Machine.execBT58 s
  | .bT59 => Sys2Proof.Machine.execBT59 s
  | .bT60 => Sys2Proof.Machine.execBT60 s
  | .bT61 => Sys2Proof.Machine.execBT61 s
  | .bT62 => Sys2Proof.Machine.execBT62 s
  | .bT63 => Sys2Proof.Machine.execBT63 s
  | .bM64 => Sys2Proof.Machine.execBM64 s
  | .bM128 => Sys2Proof.Machine.execBM128 s
  | .bM192 => Sys2Proof.Machine.execBM192 s
  | .bM256 => Sys2Proof.Machine.execBM256 s
  | .bM320 => Sys2Proof.Machine.execBM320 s
  | .bM384 => Sys2Proof.Machine.execBM384 s
  | .bM448 => Sys2Proof.Machine.execBM448 s
  | .bM512 => Sys2Proof.Machine.execBM512 s
  | .bM576 => Sys2Proof.Machine.execBM576 s
  | .bM640 => Sys2Proof.Machine.execBM640 s
  | .bM704 => Sys2Proof.Machine.execBM704 s
  | .bM768 => Sys2Proof.Machine.execBM768 s
  | .bM832 => Sys2Proof.Machine.execBM832 s
  | .bM896 => Sys2Proof.Machine.execBM896 s
  | .bM960 => Sys2Proof.Machine.execBM960 s
  | .bM1024 => Sys2Proof.Machine.execBM1024 s
  | .bM1088 => Sys2Proof.Machine.execBM1088 s
  | .bM1152 => Sys2Proof.Machine.execBM1152 s
  | .bM1216 => Sys2Proof.Machine.execBM1216 s
  | .bM1280 => Sys2Proof.Machine.execBM1280 s
  | .bM1344 => Sys2Proof.Machine.execBM1344 s
  | .bM1408 => Sys2Proof.Machine.execBM1408 s
  | .bM1472 => Sys2Proof.Machine.execBM1472 s
  | .bM1536 => Sys2Proof.Machine.execBM1536 s
  | .bM1600 => Sys2Proof.Machine.execBM1600 s
  | .bM1664 => Sys2Proof.Machine.execBM1664 s
  | .bM1728 => Sys2Proof.Machine.execBM1728 s
  | .xM1792 => Sys2Proof.Machine.execXM1792 s
  | .xM1856 => Sys2Proof.Machine.execXM1856 s
  | .xM1920 => Sys2Proof.Machine.execXM1920 s
  | .xM1984 => Sys2Proof.Machine.execXM1984 s
  | .xM2048 => Sys2Proof.Machine.execXM2048 s
  | .xM2112 => Sys2Proof.Machine.execXM2112 s
  | .xM2176 => Sys2Proof.Machine.execXM2176 s
  | .xM2240 => Sys2Proof.Machine.execXM2240 s
  | .xM2304 => Sys2Proof.Machine.execXM2304 s
  | .xM2368 => Sys2Proof.Machine.execXM2368 s
  | .xM2432 => Sys2Proof.Machine.execXM2432 s
  | .xM2496 => Sys2Proof.Machine.execXM2496 s
  | .xM2560 => Sys2Proof.Machine.execXM2560 s
  | .faxRunIllegal code => Sys2Proof.Machine.execFaxRunIllegal code s

end Sys2Proof.Machine
end

