-- ==== Sys2Proof/Machine/Sequencer.lean ====
section
/-! DEFINITION. The sequencer (10_state.md R20, R33): what the block reads next, where it reads it, and what it does where
there is no instruction to read. -/

namespace Sys2Proof.Machine

open Sys2Proof

/-- What the block does at a place where no code is read (log 1). -/
inductive Event where
  /-- Completion (R141). -/
  | complete
  /-- The rows of a predictor run are used up (R325, R327). -/
  | predDone
  /-- CCITT_GRAY (R360). -/
  | gray
  /-- The beginning of a fax attempt (R351, R355). -/
  | faxBegin
  /-- The beginning of a fax row (R385, R392). -/
  | faxRowStart
deriving DecidableEq, Repr

/-- What the block does next: read a code in a format, or an event. -/
inductive Want where
  | code (f : Format) (bs : List Bool)
  | event (e : Event)
deriving DecidableEq, Repr

/-- The selector of the predictor step (R27, R132): 1 where `pred_on` is false. -/
def predSelector (j : Latch) : BitVec 32 :=
  if j.op = .decodeStreamOpt ∧ j.desc.dpValid = 1 then j.desc.predictor else 1

/-- The bits before an LSB-first cursor (R63). -/
def restL (s : State) : List Bool := (streamL s.eng.src).drop s.eng.bitPos

/-- The bits before an MSB-first cursor (R62). -/
def restM (s : State) : List Bool := (streamM s.eng.src).drop s.eng.bitPos

/-- The bits before a byte cursor (R36), each byte most significant bit first. -/
def restBytes (s : State) : List Bool := streamM (s.eng.src.drop s.eng.bytePos)

/-- Does no byte outside the whitespace set follow the byte at the cursor (R282)? -/
def lastSignificant (s : State) : Bool := (s.eng.src.drop (s.eng.bytePos + 1)).all s.cfg.ws.contains

/-- What happens before a code is read: only LZW changes its state there, by widening the code (R255). -/
def prepare (s : State) : State :=
  if s.phase = .lzw then { s with eng := { s.eng with lzw := widenCode s.cfg.lzwMaxBits s.eng.lzw } } else s

/-- What the block does next, as a function of its state (30_encoding.md). -/
def want (s : State) : Want :=
  match s.phase with
  | .orchestrate =>
    if s.stage < s.j.desc.nfilt.toNat then .code .fname (streamL (s.j.flt.getD s.stage []))
    else if s.stage = s.j.desc.nfilt.toNat then .code .pred (bitsL 32 (predSelector s.j).toNat)
    else .event .complete
  | .ladder => .code (.strategy s.eng.ladder.step) []
  | .zlibHdr => .code .zlibHdr (restL s)
  | .zlibTrailer => .code .zlibTrailer (restL s)
  | .block => .code .deflateBlk (restL s)
  | .dynHdr => .code .dynHdr (restL s)
  | .clSym => .code (.clSym s.eng.inflate.clt s.eng.inflate.lens.isEmpty) (restL s)
  | .llSym => .code (.llSym s.eng.inflate.ll) (restL s)
  | .dSym => .code (.dSym s.eng.inflate.dd) (restL s)
  | .hex => .code (.hexChar s.cfg.ws (lastSignificant s)) (restBytes s)
  | .a85 => .code (.a85Char s.cfg.ws) (restBytes s)
  | .rl => .code .rlByte (restBytes s)
  | .lzw => .code (.lzwCode s.eng.lzw.codeBits s.eng.lzw.nextCode s.eng.lzw.prev.isSome) (restM s)
  | .tiffRow => if s.eng.src.length ≤ s.eng.bytePos then .event .predDone else .code .tiffRow []
  | .pngRow =>
    if s.eng.src.length ≤ s.eng.bytePos then .event .predDone else .code (.pngRow s.eng.pred.implied) (restBytes s)
  | .gray => .event .gray
  | .faxBegin => .event .faxBegin
  | .faxRowStart => .event .faxRowStart
  | .faxEol => .code (.faxEol (isGroup4 s.j.desc)) (restM s)
  | .faxMode => .code .faxMode (restM s)
  | .faxRun => .code (.faxRun (runColour s.eng.fax)) (restM s)

/-- The cursor after a code of `used` bits (R36): a bit engine moves BITPOS, a byte codec BYTEPOS. -/
def advance (f : Format) (used : Nat) (s : State) : State :=
  match f with
  | .cmd | .fname | .pred | .strategy _ => s
  | .rlByte | .hexChar _ _ | .a85Char _ | .pngRow _ | .tiffRow =>
    { s with eng := { s.eng with bytePos := s.eng.bytePos + used / 8 } }
  | .zlibHdr | .zlibTrailer | .deflateBlk | .dynHdr | .clSym _ _ | .llSym _ | .dSym _ | .lzwCode _ _ _ | .faxEol _
  | .faxMode | .faxRun _ => { s with eng := { s.eng with bitPos := s.eng.bitPos + used } }

/-- The input of a fax attempt (R351, R356): the retry strips the leading zero bytes. -/
def attemptInput (s : State) : Bytes :=
  if s.eng.fax.attempt = 1 then s.j.input else stripLeadingZeros s.j.input

/-- Begin a fax attempt (R351 to R355): without columns the bitmap is empty; an engine that is not the reference engine
answers all rows at once. -/
def beginAttempt (s : State) : State :=
  if faxColumns s = 0 then finishBitmap [] (setCcittWhite s)
  else if s.cfg.faxEngineReplaced then attemptEnd (faxEngineRows (attemptInput s) (faxParams s.j.desc)) s
  else goto .faxRowStart { s with eng := { Engine.empty with src := attemptInput s, fax := FaxRegs.init s.eng.fax.attempt } }

/-- Are all the rows asked for done (R383)? -/
def rowsComplete (s : State) : Bool :=
  match ccittRows s.j.desc with
  | none => false
  | some n => decide (n ≤ s.eng.fax.rowsDone.length)

/-- Is END_OF_LINE or a tag bit announced, so that rows are not byte-aligned in Group 3? So the pseudocode of R385 has it;
the table of R401 aligns every Group 3 row where END_OF_LINE is 0, tag bits or not, and the model follows R385 (DEDUCED,
log 33). -/
def announced (s : State) : Bool := endOfLine s.j.desc || readsTags s.cfg s.j.desc

/-- The beginning of a fax row (R385, R392): the row count, the alignment (with tag bits as R385, not R401, has it,
log 33), then the search for EOL codes. -/
def beginRow (s : State) : State :=
  if rowsComplete s then attemptEnd s.eng.fax.rowsDone s
  else
    goto .faxEol (setFax (fun f => { f with eols := 0 })
      (if byteAlign s.j.desc && (isGroup4 s.j.desc || !announced s) then alignBits s else s))

/-- The row itself, after the EOL codes (R385): with tag bits, the tag decides. -/
def beginRowBody (s : State) : State :=
  let t := setFax (fun f => { f with first := false }) s
  if readsTags s.cfg s.j.desc then
    match fieldM 1 (restM s) with
    | none => faxStop t
    | some tag =>
      let u : State := { t with eng := { t.eng with bitPos := t.eng.bitPos + 1 } }
      if tag = 1 then beginRow1D u else beginRow2D u
  else beginRow1D t

/-- No further EOL code stands at the cursor (R385, R392). -/
def eolsDone (s : State) : State :=
  if isGroup4 s.j.desc then
    if atEnd s then attemptEnd s.eng.fax.rowsDone s else beginRow2D s
  else if announced s && endOfLine s.j.desc && decide (s.eng.fax.eols = 0) && !s.eng.fax.first then faxStop s
  else if 2 ≤ s.eng.fax.eols then attemptEnd s.eng.fax.rowsDone s
  else if atEnd s then attemptEnd s.eng.fax.rowsDone s
  else beginRowBody s

/-- An event. -/
def handleEvent (e : Event) (s : State) : State :=
  match e with
  | .complete => finishJob s.cur s
  | .predDone => finishPredictor s.eng.out s
  | .gray => if overCap s.cfg (grayExpand s.j.input).length then raiseCap 6 s else finishJob (grayExpand s.j.input) s
  | .faxBegin => beginAttempt s
  | .faxRowStart => beginRow s

/-- The status of an inflate run at bits that are no code of the table in use (R191). -/
def noCodeStatus (p : Phase) (r : Reject) : IStatus :=
  match r, p with
  | .noCode, .clSym => .badClsym
  | .noCode, .llSym => .badLlsym
  | .noCode, .dSym => .badDsym
  | _, _ => .eof

/-- What the block does where no instruction can be read: the end of the input, or bits that are no code. -/
def handleReject (r : Reject) (s : State) : State :=
  match s.phase with
  | .orchestrate => raise .unsupported 15 s
  | .ladder => allFailed s
  | .zlibHdr | .zlibTrailer | .block | .dynHdr | .clSym | .llSym | .dSym => runEnd (noCodeStatus s.phase r) s
  | .hex => hexEnd s
  | .a85 => a85End s
  | .rl => finishStage 4 s.eng.out s
  | .lzw => finishStage 3 s.eng.out s
  | .tiffRow | .pngRow => finishPredictor s.eng.out s
  | .faxEol => eolsDone s
  | .faxMode | .faxRun => faxStop s
  | .gray | .faxBegin | .faxRowStart => s

/-- One step of the block. -/
def blockStep (s : State) : Host.Outcome State Fault Refusal :=
  match want (prepare s) with
  | .event e => .next (handleEvent e (prepare s))
  | .code f bs =>
    match decode f bs with
    | .instr i used => exec i (advance f used (prepare s))
    | .reject r => .next (handleReject r (prepare s))

end Sys2Proof.Machine
end

