-- ==== Sys2Proof/Machine/Bus.lean ====
section
/-! DEFINITION. The host's accesses (10_state.md R22 to R32, R49, 20_memory.md R66, R69, R70). -/

namespace Sys2Proof.Machine

open Sys2Proof

/-- The bits of a register that have a name (R22 to R32); the others read as 0. -/
def regMask (cfg : Config) (offset : Nat) : Word :=
  match offset with
  | 0x10 | 0x18 | 0x60 => BitVec.ofNat 64 (2 ^ cfg.lenBits - 1)
  | 0x20 => BitVec.ofNat 64 (2 ^ cfg.nfiltBits - 1)
  | 0x28 | 0x50 => 1
  | 0x30 | 0x38 | 0x40 | 0x48 | 0x58 | 0x68 | 0x70 | 0x78 => 0xFFFFFFFF
  | 0x80 => 0x1F
  | 0x88 | 0x90 | 0x98 | 0xA0 => 0xFFFFFFFFFFFFFFFF
  | _ => 0

/-- What a register holds (R22 to R32, R70); CTRL and a reserved offset, where the interface has
it (log 9), read 0. -/
def regValue (s : State) (offset : Nat) : Word :=
  match offset with
  | 0x08 => statusWord s.cfg.nfiltBits s.status
  | 0x10 => s.inLen
  | 0x18 => s.outLen
  | 0x20 => s.desc.nfilt
  | 0x28 => BitVec.ofNat 64 s.desc.dpValid.toNat
  | 0x30 => BitVec.ofNat 64 s.desc.predictor.toNat
  | 0x38 => BitVec.ofNat 64 s.desc.columns.toNat
  | 0x40 => BitVec.ofNat 64 s.desc.colors.toNat
  | 0x48 => BitVec.ofNat 64 s.desc.bpc.toNat
  | 0x50 => BitVec.ofNat 64 s.desc.secValid.toNat
  | 0x58 => BitVec.ofNat 64 s.desc.maxRatio.toNat
  | 0x60 => s.desc.maxSize
  | 0x68 => BitVec.ofNat 64 s.desc.cColumns.toNat
  | 0x70 => BitVec.ofNat 64 s.desc.cRows.toNat
  | 0x78 => BitVec.ofNat 64 s.desc.cK.toNat
  | 0x80 => BitVec.ofNat 64 s.desc.cFlags.toNat
  | 0x88 => s.einfo0
  | 0x90 => s.einfo1
  | 0x98 => s.einfo2
  | 0xA0 => s.einfo3
  | _ => 0

/-- What a host read of a register returns (R49, R471): while BUSY only STATE is specified, and of each other register
the bits that have a name are free. -/
def busRead (s : State) (offset : Nat) : Word :=
  if s.status.state = .busy then
    if offset = 0x08 then busyStatusWord s.cfg.nfiltBits (Config.freeWord s.draws)
    else Config.freeWord s.draws &&& regMask s.cfg offset
  else regValue s offset

/-- A host write of a register other than CTRL (R24 to R31, R70): the bits that have a name are stored; a read-only
register and a reserved offset ignore it. -/
def busWrite (s : State) (offset : Nat) (v : Word) : State :=
  match offset with
  | 0x10 => { s with inLen := lenWord s.cfg v.toNat }
  | 0x20 => { s with desc := { s.desc with nfilt := BitVec.ofNat 64 (v.toNat % 2 ^ s.cfg.nfiltBits) } }
  | 0x28 => { s with desc := { s.desc with dpValid := BitVec.ofNat 1 v.toNat } }
  | 0x30 => { s with desc := { s.desc with predictor := BitVec.ofNat 32 v.toNat } }
  | 0x38 => { s with desc := { s.desc with columns := BitVec.ofNat 32 v.toNat } }
  | 0x40 => { s with desc := { s.desc with colors := BitVec.ofNat 32 v.toNat } }
  | 0x48 => { s with desc := { s.desc with bpc := BitVec.ofNat 32 v.toNat } }
  | 0x50 => { s with desc := { s.desc with secValid := BitVec.ofNat 1 v.toNat } }
  | 0x58 => { s with desc := { s.desc with maxRatio := BitVec.ofNat 32 v.toNat } }
  | 0x60 => { s with desc := { s.desc with maxSize := lenWord s.cfg v.toNat } }
  | 0x68 => { s with desc := { s.desc with cColumns := BitVec.ofNat 32 v.toNat } }
  | 0x70 => { s with desc := { s.desc with cRows := BitVec.ofNat 32 v.toNat } }
  | 0x78 => { s with desc := { s.desc with cK := BitVec.ofNat 32 v.toNat } }
  | 0x80 => { s with desc := { s.desc with cFlags := BitVec.ofNat 5 v.toNat } }
  | _ => s

/-- Does the space have the address (R40)? -/
def hasAddress (cfg : Config) (sp : Space) (a : Nat) : Bool :=
  match sp with
  | .flt => decide (a < 32 * cfg.nfiltMax)
  | .inp | .out =>
    match cfg.bufCap with
    | none => true
    | some c => decide (a < c)

/-- The byte a host read of a space returns (R49): free while BUSY, in IN where nothing was written, in OUT from OUT_LEN
on. -/
def busByte (s : State) (sp : Space) (a : Nat) : Byte :=
  if s.status.state = .busy then Config.freeByte s.draws a
  else
    match sp with
    | .flt => (readByte .flt s.flt a).getD (Config.freeByte s.draws a)
    | .inp => (readByte .inp s.inp a).getD (Config.freeInByte s.draws a)
    | .out =>
      if a < s.outLen.toNat then (readByte .out s.out a).getD (Config.freeByte s.draws a)
      else Config.freeByte s.draws a

/-- A host write of one byte of FLT or IN (R49), allowed in every state. -/
def busStore (s : State) (sp : Space) (a : Nat) (b : Byte) : State :=
  match sp with
  | .flt => { s with flt := writeByte .flt s.flt a b }
  | .inp => { s with inp := writeByte .inp s.inp a b }
  | .out => s

/-- The external reset (R460): every register as after power-on, and IN and OUT without values. The configuration, the
host's schedule and the count of free values are no state of the block and stay. MAX_SIZE is 104857600 whatever LEN_BITS
is (DESIGN CHOICE, log 32). -/
def busReset (s : State) : State :=
  { State.reset with cfg := s.cfg, moves := s.moves, hostData := s.hostData, draws := s.draws }

/-- Is the access to this aligned offset outside the interface (93_implementation_defined.md A.2, log 9)? -/
def outsideMap (cfg : Config) (offset : Nat) : Bool := decide (0xA0 < offset) && decide (cfg.reservedOffsets = .refuse)

/-- A write of CTRL (R22, R90): the instruction, where there is one. -/
def busCtrl (s : State) (v : Word) : Host.Outcome State Fault Refusal :=
  match decode .cmd (bitsL 64 v.toNat) with
  | .instr i _ => exec i s
  | .reject _ => .next s

/-- One access of the host, or a step left to the block. A free value drawn counts (log 3). -/
def hostMove (m : Move) (s : State) : Host.Outcome State Fault Refusal :=
  match m with
  | .pass => if s.status.state = .busy then blockStep s else .next s
  | .regWrite offset v =>
    if offset % 8 ≠ 0 then .refused (.misaligned offset)
    else if outsideMap s.cfg offset then .refused (.noSuchRegister offset)
    else if offset = 0 then busCtrl s v
    else .next (busWrite s offset v)
  | .regRead offset =>
    if offset % 8 ≠ 0 then .refused (.misaligned offset)
    else if outsideMap s.cfg offset then .refused (.noSuchRegister offset)
    else .next { s with hostData := busRead s offset, draws := s.draws + 1 }
  | .memWrite sp a b =>
    if sp = .out then .refused (.outReadOnly a)
    else if hasAddress s.cfg sp a then .next (busStore s sp a b)
    else .fault (.noSuchAddress sp a)
  | .memRead sp a =>
    if hasAddress s.cfg sp a then
      .next { s with hostData := BitVec.ofNat 64 (busByte s sp a).toNat, draws := s.draws + 1 }
    else .fault (.noSuchAddress sp a)
  | .reset => .next (busReset s)

/-- The bytes of a table word at the block's cursor: the codec's input is the word, and the cursor stands at its start. -/
def placeSource (p : Phase) (b : Bytes) (s : State) : State :=
  { s with
    status := { s.status with state := .busy }
    phase := p
    eng := { s.eng with src := b, bytePos := 0, bitPos := 0 } }

/-- The next instruction is this word of the opcode table, read in the format of `tableFormat` (log 13): a write of CTRL
is the host's next access; a slot, a selector or a code stands where the block reads next. -/
def placeWord (s : State) (nbits w : Nat) : State :=
  match tableFormat nbits w with
  | some .cmd => { s with moves := [.regWrite 0 (BitVec.ofNat 64 w)] }
  | some .fname =>
    { s with
      moves := [], stage := 0, phase := .orchestrate
      status := { s.status with state := .busy }
      j := { s.j with flt := [(tableBytes nbits w).take 32], desc := { s.j.desc with nfilt := 1 } } }
  | some .pred =>
    { s with
      moves := [], stage := 0, phase := .orchestrate
      status := { s.status with state := .busy }
      j := { s.j with
        op := .decodeStreamOpt
        desc := { s.j.desc with nfilt := 0, dpValid := 1, predictor := BitVec.ofNat 32 w } } }
  | some .zlibHdr => placeSource .zlibHdr (tableBytes nbits w) { s with moves := [] }
  | some .rlByte => placeSource .rl (tableBytes nbits w) { s with moves := [] }
  | some (.pngRow implied) =>
    placeSource .pngRow (tableBytes nbits w)
      { s with moves := [], eng := { s.eng with pred := { s.eng.pred with implied := implied } } }
  | some (.faxRun c) =>
    placeSource .faxRun (tableBytes nbits w)
      { s with moves := [], eng := { s.eng with fax := { s.eng.fax with colour := c, use := .row1d } } }
  | _ => s

end Sys2Proof.Machine
end

