-- ==== Sys2Proof/Machine/Step.lean ====
section
/-! DEFINITION. The step of the machine, and the placing of an instruction. -/

namespace Sys2Proof.Machine

open Sys2Proof

/-- One step: the next access of the host's schedule if there is one, else a step of the block while BUSY. A block that
is not BUSY waits (R460). -/
def step (s : State) : Host.Outcome State Fault Refusal :=
  match s.moves with
  | m :: ms => hostMove m { s with moves := ms }
  | [] => if s.status.state = .busy then blockStep s else .next s

/-- The state whose next step fetches and runs the instruction of a table word. -/
def State.withFetchWord (s : State) (nbits w : Nat) : State := placeWord s nbits w

end Sys2Proof.Machine
end

