-- ==== Sys2Proof/Safety.lean ====
section
/-! DEFINITION. The terms the claims use: a running job, what an instruction leaves alone, the invariants of a run. -/

namespace Sys2Proof.Machine

open Sys2Proof

/-- A job is running and the host does nothing. -/
def running (s : State) : Prop := s.moves = [] ∧ s.status.state = .busy

/-- The host's side and the configuration are as before: what no step of the block writes (R35, R75). -/
def hostKept (s t : State) : Prop :=
  t.cfg = s.cfg ∧ t.moves = s.moves ∧ t.hostData = s.hostData ∧ t.draws = s.draws ∧ t.inLen = s.inLen ∧ t.desc = s.desc

/-- Every byte of every space reads as before. -/
def bytesKept (s t : State) : Prop := ∀ sp a, readByte sp (spaceMem t sp) a = readByte sp (spaceMem s sp) a

/-- The result registers are as before. -/
def resultKept (s t : State) : Prop :=
  t.status = s.status ∧ t.outLen = s.outLen ∧ t.einfo0 = s.einfo0 ∧ t.einfo1 = s.einfo1 ∧ t.einfo2 = s.einfo2 ∧
    t.einfo3 = s.einfo3

/-- The job state is as before. -/
def jobKept (s t : State) : Prop := t.stage = s.stage ∧ t.cur = s.cur ∧ t.origLen = s.origLen ∧ t.j = s.j

/-- All but the sequencer's place and the codec's registers is as before. -/
def onlyCodec (s t : State) : Prop := hostKept s t ∧ bytesKept s t ∧ resultKept s t ∧ jobKept s t

/-- A stage output of `n` bytes passes both bomb checks (R135, R136). -/
def withinLimits (s : State) (n : Nat) : Prop :=
  ratioExceeded s.cfg.ratioCmp n s.origLen (effLimits s.j).1 = false ∧ sizeExceeded n (effLimits s.j).2 = false

/-- The stage is over with the working buffer `o` (R133, R140): STAGE is one more, no codec is running, and the rest but
the Flate log is as before. That the codec registers are then empty is the model's choice (log 25). -/
def stageOver (o : Bytes) (s t : State) : Prop :=
  hostKept s t ∧ bytesKept s t ∧ t.cur = o ∧ t.stage = s.stage + 1 ∧ t.origLen = s.origLen ∧ t.j = s.j ∧
    t.phase = .orchestrate ∧ t.eng = Engine.empty ∧ t.outLen = s.outLen ∧ t.einfo0 = s.einfo0 ∧
    t.einfo1 = s.einfo1 ∧ t.einfo2 = s.einfo2 ∧ t.einfo3 = s.einfo3

/-- The job was aborted (R421, R426) with this class, code, unit and information. That the working buffer and the codec
registers are then empty is the model's choice (log 11), and so is that OUT, whose content R426 leaves unspecified, keeps
its bytes (log 4) and that ORIG_LEN and J keep their values (log 34). -/
def aborted (cls : ErrClass) (code : BitVec 8) (unit : Nat) (i0 i1 i2 i3 : Nat) (s t : State) : Prop :=
  hostKept s t ∧ bytesKept s t ∧ t.stage = s.stage ∧ t.origLen = s.origLen ∧ t.j = s.j ∧
    t.cur = [] ∧ t.eng = Engine.empty ∧ t.outLen = 0 ∧
    t.einfo0 = BitVec.ofNat 64 i0 ∧ t.einfo1 = BitVec.ofNat 64 i1 ∧ t.einfo2 = BitVec.ofNat 64 i2 ∧
    t.einfo3 = BitVec.ofNat 64 i3 ∧
    t.status =
      { s.status with
        state := .error
        eclass := cls
        ecode := code
        estage := stageWord s.cfg s.stage
        efilt := BitVec.ofNat 4 unit
        flateStep := if unit = 0 then 0 else s.status.flateStep }

/-! ## Registers -/

/-- The registers a host can read and write (R70). -/
def rwOffsets : List Nat := [0x10, 0x20, 0x28, 0x30, 0x38, 0x40, 0x48, 0x50, 0x58, 0x60, 0x68, 0x70, 0x78, 0x80]

/-- The registers and their values after reset (R47). -/
def resetTable : List (Nat × Word) :=
  [(0x08, 0), (0x10, 0), (0x18, 0), (0x20, 0), (0x28, 0), (0x30, 1), (0x38, 1), (0x40, 1), (0x48, 8), (0x50, 0),
   (0x58, 100), (0x60, 104857600), (0x68, 0), (0x70, 0), (0x78, 0), (0x80, 0), (0x88, 0), (0x90, 0), (0x98, 0),
   (0xA0, 0)]

/-! ## Matches -/

/-- The match length an instruction stands for (R203). -/
def lengthOf : Instr → Option Nat
  | .len257 => some 3
  | .len258 => some 4
  | .len259 => some 5
  | .len260 => some 6
  | .len261 => some 7
  | .len262 => some 8
  | .len263 => some 9
  | .len264 => some 10
  | .len265 x => some (11 + x.toNat)
  | .len266 x => some (13 + x.toNat)
  | .len267 x => some (15 + x.toNat)
  | .len268 x => some (17 + x.toNat)
  | .len269 x => some (19 + x.toNat)
  | .len270 x => some (23 + x.toNat)
  | .len271 x => some (27 + x.toNat)
  | .len272 x => some (31 + x.toNat)
  | .len273 x => some (35 + x.toNat)
  | .len274 x => some (43 + x.toNat)
  | .len275 x => some (51 + x.toNat)
  | .len276 x => some (59 + x.toNat)
  | .len277 x => some (67 + x.toNat)
  | .len278 x => some (83 + x.toNat)
  | .len279 x => some (99 + x.toNat)
  | .len280 x => some (115 + x.toNat)
  | .len281 x => some (131 + x.toNat)
  | .len282 x => some (163 + x.toNat)
  | .len283 x => some (195 + x.toNat)
  | .len284 x => some (227 + x.toNat)
  | .len285 => some 258
  | _ => none

/-- The match distance an instruction stands for (R203). -/
def distanceOf : Instr → Option Nat
  | .dist0 => some 1
  | .dist1 => some 2
  | .dist2 => some 3
  | .dist3 => some 4
  | .dist4 x => some (5 + x.toNat)
  | .dist5 x => some (7 + x.toNat)
  | .dist6 x => some (9 + x.toNat)
  | .dist7 x => some (13 + x.toNat)
  | .dist8 x => some (17 + x.toNat)
  | .dist9 x => some (25 + x.toNat)
  | .dist10 x => some (33 + x.toNat)
  | .dist11 x => some (49 + x.toNat)
  | .dist12 x => some (65 + x.toNat)
  | .dist13 x => some (97 + x.toNat)
  | .dist14 x => some (129 + x.toNat)
  | .dist15 x => some (193 + x.toNat)
  | .dist16 x => some (257 + x.toNat)
  | .dist17 x => some (385 + x.toNat)
  | .dist18 x => some (513 + x.toNat)
  | .dist19 x => some (769 + x.toNat)
  | .dist20 x => some (1025 + x.toNat)
  | .dist21 x => some (1537 + x.toNat)
  | .dist22 x => some (2049 + x.toNat)
  | .dist23 x => some (3073 + x.toNat)
  | .dist24 x => some (4097 + x.toNat)
  | .dist25 x => some (6145 + x.toNat)
  | .dist26 x => some (8193 + x.toNat)
  | .dist27 x => some (12289 + x.toNat)
  | .dist28 x => some (16385 + x.toNat)
  | .dist29 x => some (24577 + x.toNat)
  | _ => none

/-- What a code-length symbol adds after the lengths `lens` (R201): the value, and how many times. -/
def repeatOf (lens : List Nat) : Instr → Option (Nat × Nat)
  | .clLen l => some (l.toNat, 1)
  | .clCopy x => lens.getLast?.map fun v => (v, 3 + x.toNat)
  | .clZero3 x => some (0, 3 + x.toNat)
  | .clZero11 x => some (0, 11 + x.toNat)
  | _ => none

/-- A running inflate run in which no instruction can be read (R191, R202), and the status it then ends with: at the end
of the input I_EOF, at bits that are no code of the table in use the status of that table. -/
def inflateCut (s : State) (e : IStatus) : Prop :=
  running s ∧ ∃ f bs r, want s = .code f bs ∧ decode f bs = .reject r ∧
    ((r = .endOfInput ∧ e = .eof ∧
        s.phase ∈ [Phase.zlibHdr, .zlibTrailer, .block, .dynHdr, .clSym, .llSym, .dSym]) ∨
      (r = .noCode ∧ ((s.phase = .clSym ∧ e = .badClsym) ∨ (s.phase = .llSym ∧ e = .badLlsym) ∨
        (s.phase = .dSym ∧ e = .badDsym))))

/-- An inflate run is over (R192) with the outcome `x`, and its output is accepted (R163, R170). `isPartial` says whether
the run ended with an error: the trailer differs from the Adler-32, the code is illegal, or there is none. -/
def runAccepted (x : Host.Outcome State Fault Refusal) (s : State) (isPartial : Bool) : Prop :=
  ((∃ v : BitVec 32, x = exec (.zlibTrailer v) s ∧ isPartial = decide (v.toNat ≠ adler32 s.eng.out)) ∨
      (x = exec .eob s ∧ s.eng.inflate.bfinal = true ∧ s.eng.inflate.zlib = false ∧ isPartial = false) ∨
      (∃ c, x = exec (.llIllegal c) s ∧ isPartial = true) ∨ (∃ c, x = exec (.dIllegal c) s ∧ isPartial = true) ∨
      (∃ f, x = exec (.blkReserved f) s ∧ isPartial = true) ∨
      (∃ e, x = step s ∧ inflateCut s e ∧ isPartial = true)) ∧
    ((s.eng.ladder.step < 7 ∧ (s.eng.out ≠ [] ∨ (isPartial = false ∧ s.cfg.acceptCleanEmpty = true))) ∨
      (s.eng.ladder.step = 7 ∧ hasTextOp s.eng.out = true))

/-! ## The ends of the filter stages (R133) -/

/-- A running byte codec has no byte left. -/
def bytesUsedUp (p : Phase) (s : State) : Prop := running s ∧ s.phase = p ∧ s.eng.src.length ≤ s.eng.bytePos

/-- The end of a FlateDecode stage with the output `o` (R163, R167, R168, R170). -/
def flateEnds (o : Bytes) (isPartial : Bool) (x : Host.Outcome State Fault Refusal) (s : State) : Prop :=
  (runAccepted x s isPartial ∧ o = s.eng.out) ∨
    (isPartial = false ∧ o ≠ [] ∧ overCap s.cfg o.length = false ∧
      ((x = exec .flateS4 s ∧ s.cfg.altInflate4Present = true ∧ Config.altInflate4 s.cur = some o) ∨
        (x = exec .flateS5 s ∧ s.cfg.altInflate5Present = true ∧ Config.altInflate5 s.cur = some o)))

/-- The end of an ASCIIHexDecode stage with the output `o` (R281, R283, R285). -/
def hexEnds (o : Bytes) (x : Host.Outcome State Fault Refusal) (s : State) : Prop :=
  bytesUsedUp .hex s ∧ x = step s ∧
    ((s.eng.hi = none ∧ o = s.eng.out) ∨
      ∃ h, s.eng.hi = some h ∧ o = s.eng.out ++ [BitVec.ofNat 8 (16 * h.toNat)] ∧ overCap s.cfg o.length = false)

/-- The end of an ASCII85Decode stage with the output `o` (R293, R295). -/
def a85Ends (o : Bytes) (x : Host.Outcome State Fault Refusal) (s : State) : Prop :=
  x = exec .a85Term s ∧
    ((s.eng.ngrp = 0 ∧ o = s.eng.out) ∨
      ∃ v, v = (s.eng.acc + 1) * 85 ^ (5 - s.eng.ngrp) - 1 ∧ 2 ≤ s.eng.ngrp ∧ s.eng.ngrp ≤ 4 ∧ v < 2 ^ 32 ∧
        o = s.eng.out ++ ((List.range (s.eng.ngrp - 1)).map fun k => BitVec.ofNat 8 (v / 256 ^ (3 - k))) ∧
        overCap s.cfg o.length = false)

/-- The end of an LZWDecode stage with the output `o` (R253, R256, R259): the code EOD, fewer bits left than the width of
the next code (R255), or the answer of LZW_PRIMARY. -/
def lzwEnds (o : Bytes) (x : Host.Outcome State Fault Refusal) (s : State) : Prop :=
  (x = exec .lzwEod s ∧ o = s.eng.out) ∨
    (running s ∧ s.phase = .lzw ∧ x = step s ∧ o = s.eng.out ∧
      (restM s).length <
        if s.eng.lzw.nextCode = 2 ^ s.eng.lzw.codeBits - 1 ∧ s.eng.lzw.codeBits < s.cfg.lzwMaxBits then
          s.eng.lzw.codeBits + 1 else s.eng.lzw.codeBits) ∨
    (x = exec .lzwDecode s ∧ s.cfg.lzwPrimaryPresent = true ∧ Config.lzwPrimary s.cur = some o ∧
      overCap s.cfg o.length = false)

/-- The end of a RunLengthDecode stage with the output `o` (R299, R301). -/
def rlEnds (o : Bytes) (x : Host.Outcome State Fault Refusal) (s : State) : Prop :=
  o = s.eng.out ∧ (x = exec .rlEod s ∨ (bytesUsedUp .rl s ∧ x = step s))

/-- A stage of filter `unit` is over with the output `o` (R133, R134): the last step or instruction of its codec has the
outcome `x`. -/
def stageEnds (unit : Nat) (o : Bytes) (isPartial : Bool) (x : Host.Outcome State Fault Refusal) (s : State) : Prop :=
  (unit = 0 ∧ flateEnds o isPartial x s) ∨
    (isPartial = false ∧
      ((unit = 1 ∧ hexEnds o x s) ∨ (unit = 2 ∧ a85Ends o x s) ∨ (unit = 3 ∧ lzwEnds o x s) ∨ (unit = 4 ∧ rlEnds o x s) ∨
        (o = s.cur ∧
          ((unit = 5 ∧ x = exec .dctDecode s) ∨ (unit = 6 ∧ x = exec .ccittFaxDecode s) ∨
            (unit = 7 ∧ x = exec .jbig2Decode s)))))

/-! ## Fax codes -/

/-- The terminating codes of both colours with their run lengths (R387, R389). -/
def terminatingCodes : List (Instr × Nat) :=
  [(.wT0, 0), (.wT1, 1), (.wT2, 2), (.wT3, 3), (.wT4, 4), (.wT5, 5), (.wT6, 6), (.wT7, 7), (.wT8, 8), (.wT9, 9),
    (.wT10, 10), (.wT11, 11), (.wT12, 12), (.wT13, 13), (.wT14, 14), (.wT15, 15), (.wT16, 16), (.wT17, 17),
    (.wT18, 18), (.wT19, 19), (.wT20, 20), (.wT21, 21), (.wT22, 22), (.wT23, 23), (.wT24, 24), (.wT25, 25),
    (.wT26, 26), (.wT27, 27), (.wT28, 28), (.wT29, 29), (.wT30, 30), (.wT31, 31)] ++
  [(.wT32, 32), (.wT33, 33), (.wT34, 34), (.wT35, 35), (.wT36, 36), (.wT37, 37), (.wT38, 38), (.wT39, 39),
    (.wT40, 40), (.wT41, 41), (.wT42, 42), (.wT43, 43), (.wT44, 44), (.wT45, 45), (.wT46, 46), (.wT47, 47),
    (.wT48, 48), (.wT49, 49), (.wT50, 50), (.wT51, 51), (.wT52, 52), (.wT53, 53), (.wT54, 54), (.wT55, 55),
    (.wT56, 56), (.wT57, 57), (.wT58, 58), (.wT59, 59), (.wT60, 60), (.wT61, 61), (.wT62, 62), (.wT63, 63)] ++
  [(.bT0, 0), (.bT1, 1), (.bT2, 2), (.bT3, 3), (.bT4, 4), (.bT5, 5), (.bT6, 6), (.bT7, 7), (.bT8, 8), (.bT9, 9),
    (.bT10, 10), (.bT11, 11), (.bT12, 12), (.bT13, 13), (.bT14, 14), (.bT15, 15), (.bT16, 16), (.bT17, 17),
    (.bT18, 18), (.bT19, 19), (.bT20, 20), (.bT21, 21), (.bT22, 22), (.bT23, 23), (.bT24, 24), (.bT25, 25),
    (.bT26, 26), (.bT27, 27), (.bT28, 28), (.bT29, 29), (.bT30, 30), (.bT31, 31)] ++
  [(.bT32, 32), (.bT33, 33), (.bT34, 34), (.bT35, 35), (.bT36, 36), (.bT37, 37), (.bT38, 38), (.bT39, 39),
    (.bT40, 40), (.bT41, 41), (.bT42, 42), (.bT43, 43), (.bT44, 44), (.bT45, 45), (.bT46, 46), (.bT47, 47),
    (.bT48, 48), (.bT49, 49), (.bT50, 50), (.bT51, 51), (.bT52, 52), (.bT53, 53), (.bT54, 54), (.bT55, 55),
    (.bT56, 56), (.bT57, 57), (.bT58, 58), (.bT59, 59), (.bT60, 60), (.bT61, 61), (.bT62, 62), (.bT63, 63)]

/-- The make-up codes of both colours, and those common to both, with their run lengths (R388, R390). -/
def makeUpCodes : List (Instr × Nat) :=
  [(.wM64, 64), (.wM128, 128), (.wM192, 192), (.wM256, 256), (.wM320, 320), (.wM384, 384), (.wM448, 448),
    (.wM512, 512), (.wM576, 576), (.wM640, 640), (.wM704, 704), (.wM768, 768), (.wM832, 832), (.wM896, 896),
    (.wM960, 960), (.wM1024, 1024), (.wM1088, 1088), (.wM1152, 1152), (.wM1216, 1216), (.wM1280, 1280),
    (.wM1344, 1344), (.wM1408, 1408), (.wM1472, 1472), (.wM1536, 1536), (.wM1600, 1600), (.wM1664, 1664),
    (.wM1728, 1728), (.bM64, 64), (.bM128, 128), (.bM192, 192), (.bM256, 256), (.bM320, 320)] ++
  [(.bM384, 384), (.bM448, 448), (.bM512, 512), (.bM576, 576), (.bM640, 640), (.bM704, 704), (.bM768, 768),
    (.bM832, 832), (.bM896, 896), (.bM960, 960), (.bM1024, 1024), (.bM1088, 1088), (.bM1152, 1152), (.bM1216, 1216),
    (.bM1280, 1280), (.bM1344, 1344), (.bM1408, 1408), (.bM1472, 1472), (.bM1536, 1536), (.bM1600, 1600),
    (.bM1664, 1664), (.bM1728, 1728), (.xM1792, 1792), (.xM1856, 1856), (.xM1920, 1920), (.xM1984, 1984),
    (.xM2048, 2048), (.xM2112, 2112), (.xM2176, 2176), (.xM2240, 2240), (.xM2304, 2304), (.xM2368, 2368)] ++
  [(.xM2432, 2432), (.xM2496, 2496), (.xM2560, 2560)]

/-- The vertical modes with their offsets (R396, R107). -/
def verticalModes : List (Instr × Int) :=
  [(.faxV0, 0), (.faxVr1, 1), (.faxVr2, 2), (.faxVr3, 3), (.faxVl1, -1), (.faxVl2, -2), (.faxVl3, -3)]

/-! ## Formats and tables -/

/-- Is one code the beginning of another, or the same (R381)? -/
def codeBegins (l c l' c' : Nat) : Prop := l ≤ l' ∧ c' / 2 ^ (l' - l) = c

/-- A Huffman table in which every code is 1 to 15 bits long, fits its length, and begins no other (R202). -/
def tableWf (t : HuffTable) : Prop :=
  (∀ e ∈ t, 1 ≤ e.len ∧ e.len ≤ 15 ∧ e.code < 2 ^ e.len) ∧
    t.Pairwise fun e e' => ¬ codeBegins e.len e.code e'.len e'.code ∧ ¬ codeBegins e'.len e'.code e.len e.code

/-- A format whose tables are well-formed, and whose code width the Bit Reader has (R251). -/
def formatWf : Format → Prop
  | .clSym t _ => tableWf t
  | .llSym t => tableWf t
  | .dSym t => tableWf t
  | .lzwCode width _ _ => width ≤ 16
  | _ => True

/-! ## Invariants -/

/-- The three memories have the canonical form. -/
def memoryWf (s : State) : Prop :=
  Memory.wf .flt s.flt = true ∧ Memory.wf .inp s.inp = true ∧ Memory.wf .out s.out = true

/-- The result registers agree with one another (R23, R25, R32, R426): without an error class all error registers are 0;
with one, OUT_LEN is 0, ECODE is not, and the job is over; ERROR has a class; a running job has OUT_LEN 0. -/
def resultWf (s : State) : Prop :=
  (s.status.eclass = .none →
      s.status.ecode = 0 ∧ s.status.estage = 0 ∧ s.status.efilt = 0 ∧ s.einfo0 = 0 ∧ s.einfo1 = 0 ∧ s.einfo2 = 0 ∧
        s.einfo3 = 0) ∧
    (s.status.eclass ≠ .none →
      s.outLen = 0 ∧ s.status.ecode ≠ 0 ∧ (s.status.state = .error ∨ s.status.state = .idle)) ∧
    (s.status.state = .error → s.status.eclass ≠ .none) ∧ (s.status.state = .busy → s.outLen = 0)

/-- Is the operation one of the generic ones (R22)? -/
def isGeneric : Op → Bool
  | .decodeStream | .decodeStreamOpt => true
  | .ccittDecode | .ccittGray => false

/-- Is the phase inside a filter stage? -/
def inCodec : Phase → Bool
  | .ladder | .zlibHdr | .zlibTrailer | .block | .dynHdr | .clSym | .llSym | .dSym | .hex | .a85 | .rl | .lzw => true
  | _ => false

/-- Is the phase inside a CCITT_DECODE job? -/
def inFax : Phase → Bool
  | .faxBegin | .faxRowStart | .faxEol | .faxMode | .faxRun => true
  | _ => false

/-- The program counter of a running job agrees with what the block does (R33): inside a filter stage it names a filter,
inside the predictor it is NFILT, it never passes NFILT + 1, and in a CCITT job it is 0. -/
def stageWf (s : State) : Prop :=
  s.status.state = .busy →
    (inCodec s.phase = true → isGeneric s.j.op = true ∧ s.stage < s.j.desc.nfilt.toNat) ∧
      (s.phase = .tiffRow ∨ s.phase = .pngRow → isGeneric s.j.op = true ∧ s.stage = s.j.desc.nfilt.toNat) ∧
      (s.phase = .orchestrate → isGeneric s.j.op = true ∧ s.stage ≤ s.j.desc.nfilt.toNat + 1) ∧
      (inFax s.phase = true → s.j.op = .ccittDecode ∧ s.stage = 0) ∧
      (s.phase = .gray → s.j.op = .ccittGray ∧ s.stage = 0)

/-- The LZW registers between two codes (R261). -/
def lzwWf (s : State) : Prop :=
  s.eng.lzw.nextCode = 258 + s.eng.lzw.tab.length ∧ s.eng.lzw.nextCode ≤ 4096 ∧ 9 ≤ s.eng.lzw.codeBits ∧
    s.eng.lzw.codeBits ≤ s.cfg.lzwMaxBits ∧ (s.eng.lzw.nextCode < 2 ^ s.eng.lzw.codeBits ∨ 12 ≤ s.eng.lzw.codeBits) ∧
    (∀ x ∈ s.eng.lzw.tab, 2 ≤ x.length) ∧ (∀ p, s.eng.lzw.prev = some p → p ≠ []) ∧
    (∀ k x, s.eng.lzw.tab[k]? = some x → x.length ≤ k + 2) ∧
    (∀ p, s.eng.lzw.prev = some p → p.length + 257 ≤ s.eng.lzw.nextCode) ∧
    (s.eng.lzw.prev = none → s.eng.lzw.tab = [])

/-- The ASCII85 registers between two characters (R45, R290). -/
def a85Wf (s : State) : Prop := s.eng.ngrp ≤ 4 ∧ s.eng.acc < 85 ^ s.eng.ngrp

/-- A row of transitions (R353): positions that do not fall, none beyond the width. -/
def rowWf (columns : Nat) (t : List Nat) : Prop := t.Pairwise (· ≤ ·) ∧ ∀ x ∈ t, x ≤ columns

/-- The rows of the fax engine (R353): those done, the reference line, and the one in progress, which the current
position has passed. -/
def faxWf (s : State) : Prop :=
  (∀ r ∈ s.eng.fax.rowsDone, rowWf (faxColumns s) r) ∧ rowWf (faxColumns s) s.eng.fax.ref ∧
    (s.phase = .faxMode ∨ (s.phase = .faxRun ∧ s.eng.fax.use ≠ .row1d) →
      rowWf (faxColumns s) s.eng.fax.t ∧ s.eng.fax.a0 ≤ faxColumns s ∧ ∀ x ∈ s.eng.fax.t, (x : Int) ≤ s.eng.fax.a0) ∧
    (∀ a1, s.phase = .faxRun → s.eng.fax.use = .horiz2 a1 → s.eng.fax.a0 ≤ a1) ∧
    (s.phase = .faxRun → s.eng.fax.use = .row1d →
      rowWf (faxColumns s) s.eng.fax.t ∧ s.eng.fax.pos ≤ faxColumns s ∧ ∀ x ∈ s.eng.fax.t, x ≤ s.eng.fax.pos)

/-! ## What a job sees -/

/-- The same job: equal in all the block reads (R46). -/
def sameJob (s t : State) : Prop :=
  t.cfg = s.cfg ∧ t.j = s.j ∧ t.stage = s.stage ∧ t.cur = s.cur ∧ t.origLen = s.origLen ∧ t.phase = s.phase ∧
    t.eng = s.eng

/-- The same job at the same place, with the same result registers so far. -/
def sameRun (s t : State) : Prop := sameJob s t ∧ resultKept s t

/-- What a host can observe of a job that is over (R46): STATUS, OUT_LEN, EINFO0 to EINFO3 and OUT below OUT_LEN. -/
def sameResult (s t : State) : Prop :=
  t.status = s.status ∧ t.outLen = s.outLen ∧ t.einfo0 = s.einfo0 ∧ t.einfo1 = s.einfo1 ∧ t.einfo2 = s.einfo2 ∧
    t.einfo3 = s.einfo3 ∧ ∀ a, a < s.outLen.toNat → readByte .out t.out a = readByte .out s.out a

/-- The same job with BLACK_IS_1 set (R363). -/
def withBlackIs1 (s : State) : State :=
  { s with j := { s.j with desc := { s.j.desc with cFlags := s.j.desc.cFlags ||| 2 } } }

end Sys2Proof.Machine
end

