-- ==== Sys2Proof/Certificates/Slice0/Obligations.lean ====
section
/-! DEFINITION. The statements for the provers. -/

open Sys2Proof Sys2Proof.Machine

/-- A step runs the decoded instruction (10_state.md R20; 10_state.md R33; 30_encoding.md R90; 70_reset_and_hazards.md
R460).

The host schedule and `pass` are the model's choice (log 2), and so is that a block that is not BUSY answers the
same state (log 20). -/
def Obligations.StepRunsDecodedInstruction : Prop :=
  (∀ (s : State) (f : Format) (bs : List Bool) (i : Instr) (used : Nat), running s →
      want (prepare s) = .code f bs → decode f bs = .instr i used → step s = exec i (advance f used (prepare s))) ∧
    (∀ (s : State) (f : Format) (bs : List Bool) (i : Instr) (used : Nat) (ms : List Move),
      s.moves = .pass :: ms → s.status.state = .busy → want (prepare { s with moves := ms }) = .code f bs →
      decode f bs = .instr i used → step s = exec i (advance f used (prepare { s with moves := ms }))) ∧
    (∀ (s : State) (v : Word) (ms : List Move) (i : Instr) (used : Nat), s.moves = .regWrite 0 v :: ms →
      decode .cmd (bitsL 64 v.toNat) = .instr i used → step s = exec i { s with moves := ms }) ∧
    (∀ s : State, s.moves = [] → s.status.state ≠ .busy → step s = .next s)

/-- No step of a running job faults or is refused (70_reset_and_hazards.md R471; 60_exceptions.md R429). -/
def Obligations.EveryBlockStepCompletes : Prop :=
  ∀ s : State, running s → ∃ t, step s = .next t

/-- A running job writes neither its program nor the host side (10_state.md R35; 20_memory.md R75; 60_exceptions.md
R426).

That OUT keeps its bytes where a step aborts the job is the model's choice (log 4), and so is that J and ORIG_LEN
stay where a step ends the job (log 34). -/
def Obligations.JobWritesOnlyItsResult : Prop :=
  ∀ s t : State, running s → step s = .next t →
    hostKept s t ∧ t.j = s.j ∧ t.origLen = s.origLen ∧
      (∀ a, readByte .flt t.flt a = readByte .flt s.flt a) ∧ (∀ a, readByte .inp t.inp a = readByte .inp s.inp a) ∧
      (t.status.state ≠ .done → ∀ a, readByte .out t.out a = readByte .out s.out a)

/-- The result of a job is a function of the latch and the configuration (10_state.md R46; 70_reset_and_hazards.md
R462). -/
def Obligations.ResultDependsOnTheLatchOnly : Prop :=
  ∀ s s' t : State, running s → running s' → sameRun s s' → step s = .next t →
    ∃ t', step s' = .next t' ∧
      ((t.status.state = .busy ∧ sameRun t t') ∨ (t.status.state ≠ .busy ∧ sameResult t t'))

/-- START latches the descriptor, FLT and IN and clears the result, or ends the job at once above BUF_CAP; ACK ends a
finished job (10_state.md R22; 60_exceptions.md R428; 60_exceptions.md R423; 10_state.md R48; 10_state.md R35;
40_orchestrator.md R131; 40_orchestrator.md R132; 46_ccitt.md R351; 46_ccitt.md R360).

That OUT keeps its bytes where START is aborted is the model's choice (log 4), that the codec registers are empty
after START is log 25, and that ACK keeps the private state is log 34. Where BUF_CAP is checked is the model's
reading, log 18. -/
def Obligations.StartLatchesAndAckEndsTheJob : Prop :=
  (∀ p ∈ ([(.decodeStream, .decodeStream), (.decodeStreamOpt, .decodeStreamOpt), (.ccittDecode, .ccittDecode),
      (.ccittGray, .ccittGray)] : List (Instr × Op)),
    ∀ s : State, s.status.state ≠ .busy → overCap s.cfg s.inLen.toNat = false →
    ∃ t, exec p.1 s = .next t ∧
      t.status = { Status.zero with state := .busy } ∧ t.outLen = 0 ∧ t.einfo0 = 0 ∧ t.einfo1 = 0 ∧ t.einfo2 = 0 ∧
      t.einfo3 = 0 ∧ t.stage = 0 ∧ t.cur = t.j.input ∧ t.origLen = t.j.input.length ∧ t.eng = Engine.empty ∧
      t.phase = firstPhase p.2 ∧ t.j.op = p.2 ∧ t.j.desc = s.desc ∧ t.j.input.length = s.inLen.toNat ∧
      (∀ a b, a < s.inLen.toNat → readByte .inp s.inp a = some b → t.j.input[a]? = some b) ∧
      t.j.flt.length = s.desc.nfilt.toNat ∧
      (∀ i k b, i < s.desc.nfilt.toNat → k < 32 → readByte .flt s.flt (32 * i + k) = some b →
        (t.j.flt[i]?.bind fun slot => slot[k]?) = some b) ∧
      bytesKept s t ∧ t.cfg = s.cfg ∧ t.moves = s.moves ∧ t.inLen = s.inLen ∧ t.desc = s.desc) ∧
    (∀ i ∈ [Instr.decodeStream, .decodeStreamOpt, .ccittDecode, .ccittGray], ∀ (s : State) (cap : Nat),
      s.status.state ≠ .busy → s.cfg.bufCap = some cap → cap < s.inLen.toNat →
      ∃ t, exec i s = .next t ∧
        t.status =
          { Status.zero with state := .error, eclass := .decodeError, ecode := 0x7F, estage := 0, efilt := 15 } ∧
        t.outLen = 0 ∧ t.einfo0 = BitVec.ofNat 64 cap ∧ t.einfo1 = 0 ∧ t.einfo2 = 0 ∧ t.einfo3 = 0 ∧
        bytesKept s t ∧ t.cfg = s.cfg ∧ t.moves = s.moves ∧ t.inLen = s.inLen ∧ t.desc = s.desc) ∧
    ∀ s : State, s.status.state = .done ∨ s.status.state = .error →
      exec .ack s = .next { s with status := { s.status with state := .idle } }

/-- START and ACK are ignored while BUSY, ACK while IDLE (70_reset_and_hazards.md R468). -/
def Obligations.StartAndAckIgnored : Prop :=
  ∀ (s : State) (v : Word) (ms : List Move), s.moves = .regWrite 0 v :: ms →
    s.status.state = .busy ∨ (s.status.state = .idle ∧ v.getLsbD 0 = false) → step s = .next { s with moves := ms }

/-- The START, ACK and OP bits of CTRL select the command (30_encoding.md R90; 10_state.md R22). -/
def Obligations.CtrlWriteSelectsTheCommand : Prop :=
  ∀ v : Word,
    (v.getLsbD 0 = true → v.getLsbD 5 = false → v.getLsbD 4 = false →
      decode .cmd (bitsL 64 v.toNat) = .instr .decodeStream 64) ∧
    (v.getLsbD 0 = true → v.getLsbD 5 = false → v.getLsbD 4 = true →
      decode .cmd (bitsL 64 v.toNat) = .instr .decodeStreamOpt 64) ∧
    (v.getLsbD 0 = true → v.getLsbD 5 = true → v.getLsbD 4 = false →
      decode .cmd (bitsL 64 v.toNat) = .instr .ccittDecode 64) ∧
    (v.getLsbD 0 = true → v.getLsbD 5 = true → v.getLsbD 4 = true →
      decode .cmd (bitsL 64 v.toNat) = .instr .ccittGray 64) ∧
    (v.getLsbD 0 = false → v.getLsbD 1 = true → decode .cmd (bitsL 64 v.toNat) = .instr .ack 64) ∧
    (v.getLsbD 0 = false → v.getLsbD 1 = false → decode .cmd (bitsL 64 v.toNat) = .reject .noCommand)

/-- A register reads back the named bits of what was written, takes a write while BUSY too, a read-only one ignores
the write, and STATUS reads as its fields (10_state.md section 3; 20_memory.md R70; 20_memory.md R66; 10_state.md
R23; 10_state.md R24; 10_state.md R25; 10_state.md R26; 10_state.md R27; 10_state.md R28; 10_state.md R30;
10_state.md R35; 10_state.md R49).

Aligned offsets above 0xA0: two readings of the spec, log 9. Misaligned offsets: log 10. That a read while BUSY is
free but for STATE is the reading of log 17. -/
def Obligations.RegistersReadBackWhatWasWritten : Prop :=
  (∀ o ∈ rwOffsets, ∀ (s : State) (v : Word), s.status.state ≠ .busy → Config.legal s.cfg = true →
    s.moves = [.regWrite o v, .regRead o] →
    ∃ t, Host.Core.run Sys2Proof.core 2 s = .next t ∧ t.hostData = v &&& regMask s.cfg o ∧
      ∀ o', o' ≠ o → regValue t o' = regValue s o') ∧
    (∀ o ∈ rwOffsets, ∀ (s : State) (v : Word) (ms : List Move), Config.legal s.cfg = true →
      s.moves = .regWrite o v :: ms →
      ∃ t, step s = .next t ∧ t.moves = ms ∧ regValue t o = v &&& regMask s.cfg o ∧
        (∀ o', o' ≠ o → regValue t o' = regValue s o') ∧ sameJob s t ∧ resultKept s t ∧ bytesKept s t) ∧
    (∀ (s : State) (o : Nat) (ms : List Move), s.moves = .regRead o :: ms → s.status.state = .busy →
      o % 8 = 0 → o ≤ 0xA0 →
      ∃ t, step s = .next t ∧ t = { s with moves := ms, draws := s.draws + 1, hostData := t.hostData } ∧
        (o = 0x08 → t.hostData.extractLsb' 0 2 = 1 ∧ t.hostData.extractLsb' 4 4 = 0) ∧
        (o ≠ 0x08 → t.hostData &&& ~~~regMask s.cfg o = 0)) ∧
    (∀ o ∈ [0x08, 0x18, 0x88, 0x90, 0x98, 0xA0], ∀ (s : State) (v : Word) (ms : List Move),
      s.moves = .regWrite o v :: ms → step s = .next { s with moves := ms }) ∧
    (∀ (s : State) (ms : List Move), s.moves = .regRead 0x08 :: ms → s.status.state ≠ .busy → s.cfg.nfiltMax ≤ 15 →
      ∃ t, step s = .next t ∧ t = { s with moves := ms, draws := s.draws + 1, hostData := t.hostData } ∧
        (s.status.state = .idle → t.hostData.extractLsb' 0 2 = 0) ∧
        (s.status.state = .done → t.hostData.extractLsb' 0 2 = 2) ∧
        (s.status.state = .error → t.hostData.extractLsb' 0 2 = 3) ∧
        (s.status.eclass = .none → t.hostData.extractLsb' 2 2 = 0) ∧
        (s.status.eclass = .unsupportedFilter → t.hostData.extractLsb' 2 2 = 1) ∧
        (s.status.eclass = .decodeError → t.hostData.extractLsb' 2 2 = 2) ∧
        (s.status.eclass = .bomb → t.hostData.extractLsb' 2 2 = 3) ∧
        t.hostData.extractLsb' 4 4 = 0 ∧ t.hostData.extractLsb' 8 8 = s.status.ecode ∧
        t.hostData.extractLsb' 16 4 = s.status.estage.setWidth 4 ∧ t.hostData.extractLsb' 20 4 = s.status.efilt ∧
        t.hostData.extractLsb' 24 3 = s.status.flateStep ∧ t.hostData.getLsbD 27 = s.status.flatePartial ∧
        t.hostData.getLsbD 28 = s.status.lzwFallback ∧ t.hostData.getLsbD 29 = s.status.ccittRetry ∧
        t.hostData.getLsbD 30 = s.status.ccittWhite ∧ t.hostData.extractLsb' 31 33 = 0) ∧
    (∀ (s : State) (o : Nat) (v : Word) (ms : List Move) (m : Move), m = .regWrite o v ∨ m = .regRead o →
      s.moves = m :: ms →
      (o % 8 ≠ 0 → step s = .refused (.misaligned o)) ∧
      (o % 8 = 0 → 0xA0 < o → s.cfg.reservedOffsets = .refuse → step s = .refused (.noSuchRegister o)) ∧
      (o % 8 = 0 → 0xA0 < o → s.cfg.reservedOffsets = .readZero →
        (m = .regWrite o v → step s = .next { s with moves := ms }) ∧
        (m = .regRead o → step s = .next { s with moves := ms, draws := s.draws + 1, hostData := 0 })))

/-- FLT and IN read back the byte written, take a write while BUSY too, OUT reads the result, and no other byte
changes (10_state.md R40; 10_state.md R49; 20_memory.md R60; 10_state.md R35; 93_implementation_defined.md A.2).

That a read while BUSY is free is the reading of log 17. Accesses outside a space: log 10. Where BUF_CAP is
checked is the model's reading, log 18. -/
def Obligations.BufferBytesReadBackWhatWasWritten : Prop :=
  (∀ (s : State) (sp : Space) (a : Nat) (b : Byte), sp ≠ .out → hasAddress s.cfg sp a = true →
    s.status.state ≠ .busy → memoryWf s → s.moves = [.memWrite sp a b, .memRead sp a] →
    ∃ t, Host.Core.run Sys2Proof.core 2 s = .next t ∧ t.hostData = BitVec.ofNat 64 b.toNat ∧
      ∀ sp' a', (sp' ≠ sp ∨ a' ≠ a) → readByte sp' (spaceMem t sp') a' = readByte sp' (spaceMem s sp') a') ∧
    (∀ (s : State) (sp : Space) (a : Nat) (b : Byte) (ms : List Move), sp ≠ .out → hasAddress s.cfg sp a = true →
      memoryWf s → s.moves = .memWrite sp a b :: ms →
      ∃ t, step s = .next t ∧ t.moves = ms ∧ readByte sp (spaceMem t sp) a = some b ∧
        (∀ sp' a', (sp' ≠ sp ∨ a' ≠ a) → readByte sp' (spaceMem t sp') a' = readByte sp' (spaceMem s sp') a') ∧
        sameJob s t ∧ resultKept s t ∧ ∀ o, regValue t o = regValue s o) ∧
    (∀ (s : State) (sp : Space) (a : Nat) (ms : List Move), hasAddress s.cfg sp a = true →
      s.moves = .memRead sp a :: ms →
      ∃ (t : State) (v : Byte), step s = .next t ∧
        t = { s with moves := ms, draws := s.draws + 1, hostData := BitVec.ofNat 64 v.toNat } ∧
        ∀ b, sp = .out → s.status.state ≠ .busy → a < s.outLen.toNat → readByte .out s.out a = some b → v = b) ∧
    (∀ (s : State) (a : Nat) (b : Byte) (ms : List Move), s.moves = .memWrite .out a b :: ms →
      step s = .refused (.outReadOnly a)) ∧
    ∀ (s : State) (sp : Space) (a : Nat) (ms : List Move) (m : Move), s.moves = m :: ms →
      m = .memRead sp a ∨ (sp ≠ .out ∧ ∃ b, m = .memWrite sp a b) →
      (sp = .flt ∧ 32 * s.cfg.nfiltMax ≤ a) ∨ (sp ≠ .flt ∧ ∃ c, s.cfg.bufCap = some c ∧ c ≤ a) →
      step s = .fault (.noSuchAddress sp a)

/-- Every register has its reset value after reset (10_state.md R47; 70_reset_and_hazards.md R460).

IN and OUT without values: the model's choice, log 4. MAX_SIZE where LEN_BITS is below 27: the model's choice, log
32. -/
def Obligations.ResetValues : Prop :=
  ∀ s : State, ∀ r ∈ [State.reset, busReset s],
    r.status = Status.zero ∧ (∀ p ∈ resetTable, regValue r p.1 = p.2) ∧
      (∀ a, a < 32 * r.cfg.nfiltMax → readByte .flt r.flt a = some 0) ∧
      (∀ a, readByte .inp r.inp a = none ∧ readByte .out r.out a = none)

/-- Every step keeps the canonical form of the three memories (10_state.md R40; 40_orchestrator.md R141). -/
def Obligations.MemoryFormKept : Prop :=
  ∀ s t : State, memoryWf s → step s = .next t → memoryWf t

/-- The reset state meets every invariant (10_state.md R47; 43_lzw.md R254).

R47 leaves the private registers unspecified after reset: the values they hold there are the model's choice, log
5. -/
def Obligations.ResetMeetsTheInvariants : Prop :=
  memoryWf State.reset ∧ resultWf State.reset ∧ stageWf State.reset ∧ lzwWf State.reset ∧ a85Wf State.reset ∧
    faxWf State.reset

/-- Every step keeps the result registers consistent (10_state.md R23; 10_state.md R25; 10_state.md R32;
60_exceptions.md R426; 10_state.md R48). -/
def Obligations.ResultRegistersStayConsistent : Prop :=
  ∀ s t : State, resultWf s → step s = .next t → resultWf t

/-- Every step keeps STAGE in its range and in agreement with the running unit (10_state.md R33).

That STAGE stays where a step ends the job in DONE is the model's choice (log 34). -/
def Obligations.StageCounterStaysInRange : Prop :=
  (∀ s t : State, stageWf s → step s = .next t → stageWf t) ∧
    (∀ s t : State, running s → step s = .next t → t.stage = s.stage ∨ t.stage = s.stage + 1)

/-- Every step keeps the LZW registers consistent, and a code emits at most NEXT_CODE - 256 bytes (43_lzw.md R261).

At NEXT_CODE = 4096 the bound on what a code emits rests on the model's choice of log 31. -/
def Obligations.LzwRegistersStayConsistent : Prop :=
  (∀ s t : State, Config.legal s.cfg = true → lzwWf s → step s = .next t → lzwWf t) ∧
    (∀ s t : State, running s → s.phase = .lzw → lzwWf s → step s = .next t → t.phase = .lzw →
      t.eng.out.length + 256 ≤ s.eng.out.length + s.eng.lzw.nextCode)

/-- Every step keeps the ASCII85 accumulator below 85 to the number of digits (10_state.md R45; 44_simple_codecs.md
R290). -/
def Obligations.Ascii85GroupStaysBounded : Prop :=
  ∀ s t : State, a85Wf s → step s = .next t → a85Wf t

/-- Every step keeps the rows of the fax engine in the order and range of its contract (46_ccitt.md R353;
47_fax_engine.md R382; 47_fax_engine.md R398; 47_fax_engine.md R399). -/
def Obligations.FaxRowsStayOrdered : Prop :=
  ∀ s t : State, faxWf s → step s = .next t → faxWf t

/-- Illegal names, selectors, characters, codes and tags, and output beyond BUF_CAP, abort the job with their cause
(60_exceptions.md R421; 60_exceptions.md R426; 40_orchestrator.md R133; 45_predictor.md R322; 45_predictor.md
R328; 44_simple_codecs.md R284; 44_simple_codecs.md R294; 43_lzw.md R257; 60_exceptions.md R423).

That the working buffer and the codec registers are empty after an abort is the model's choice, log 11, that OUT
keeps its bytes then, log 4, and that ORIG_LEN and J stay, log 34. Where BUF_CAP is checked is the model's
reading, log 18. -/
def Obligations.IllegalCodesAbortTheJob : Prop :=
  ∀ s : State,
    (∀ slot, ∃ t, exec (.fnameUnknown slot) s = .next t ∧ aborted .unsupportedFilter 0x01 15 0 0 0 0 s t) ∧
    (∀ p, ∃ t, exec (.predIllegal p) s = .next t ∧
      aborted .decodeError 0x62 8 p.toNat s.j.desc.columns.toNat s.j.desc.colors.toNat s.j.desc.bpc.toNat s t) ∧
    (∀ c, ∃ t, exec (.hexIllegal c) s = .next t ∧ aborted .decodeError 0x10 1 c.toNat 0 0 0 s t) ∧
    (∀ c, ∃ t, exec (.a85Illegal c) s = .next t ∧ aborted .decodeError 0x20 2 c.toNat 0 0 0 s t) ∧
    (∀ c, ∃ t, exec (.lzwIllegal c) s = .next t ∧
      aborted .decodeError 0x40 3 c.toNat s.eng.lzw.nextCode 0 0 s t) ∧
    (∀ tag, ∃ t, exec (.pngTagIllegal tag) s = .next t ∧
      aborted .decodeError 0x61 8 tag.toNat s.eng.pred.row 0 0 s t) ∧
    ∀ cap, s.cfg.bufCap = some cap →
      let capped : Nat → Instr → Prop := fun unit i =>
        ∃ t, exec i s = .next t ∧ aborted .decodeError 0x7F unit cap 0 0 0 s t
      let beyond : Nat → Prop := fun n => cap < s.eng.out.length + n
      (beyond 1 →
        (∀ b, capped 0 (.lit b)) ∧ (∀ b, capped 3 (.lzwLit b)) ∧
        (∀ c v h, hexVal c = some v → s.eng.hi = some h → capped 1 (.hexDigit c)) ∧
        (∀ h, s.eng.hi = some h → running s → s.phase = .hex → s.eng.src.length ≤ s.eng.bytePos →
          ∃ t, step s = .next t ∧ aborted .decodeError 0x7F 1 cap 0 0 0 s t)) ∧
      (∀ i d, distanceOf i = some d → d ≤ s.eng.out.length → beyond s.eng.inflate.matchLen → capped 0 i) ∧
      (∀ (final : Bool) (l0 l1 n0 n1 : Byte) (data : Bytes) (n : Nat),
        s.eng.src.drop ((s.eng.bitPos + 7) / 8) = l0 :: l1 :: n0 :: n1 :: data → n = l0.toNat + 256 * l1.toNat →
        n + (n0.toNat + 256 * n1.toNat) = 65535 → beyond (min n data.length) → capped 0 (.blkStored final)) ∧
      (∀ (c : BitVec 16) (str : Bytes), 258 ≤ c.toNat → c.toNat < s.eng.lzw.nextCode →
        s.eng.lzw.tab[c.toNat - 258]? = some str → beyond str.length → capped 3 (.lzwRef c)) ∧
      (∀ p, s.eng.lzw.prev = some p → s.eng.lzw.nextCode < 4096 → beyond (p ++ p.take 1).length →
        capped 3 .lzwKwkwk) ∧
      (s.eng.ngrp = 0 → beyond 4 → capped 2 .a85Z) ∧
      (∀ c : Byte, s.eng.ngrp = 4 → 85 * s.eng.acc + (c.toNat - 0x21) < 2 ^ 32 → beyond 4 →
        capped 2 (.a85Digit c)) ∧
      (2 ≤ s.eng.ngrp → s.eng.ngrp ≤ 4 → (s.eng.acc + 1) * 85 ^ (5 - s.eng.ngrp) - 1 < 2 ^ 32 →
        beyond (s.eng.ngrp - 1) → capped 2 .a85Term) ∧
      (∀ (n : BitVec 7) (b : Byte), s.eng.src[s.eng.bytePos]? = some b → beyond (257 - (128 + n.toNat)) →
        capped 4 (.rlRepeat n)) ∧
      (∀ n : BitVec 7, s.eng.bytePos + (n.toNat + 1) ≤ s.eng.src.length → beyond (n.toNat + 1) →
        capped 4 (.rlLiteral n)) ∧
      (s.eng.bytePos + pixelBytes s.j.desc ≤ s.eng.src.length → beyond (pixelBytes s.j.desc) →
        ∀ i ∈ [Instr.pngNone, .pngSub, .pngUp, .pngAverage, .pngPaeth, .tiffRow], capped 8 i) ∧
      (∀ o, s.cfg.lzwPrimaryPresent = true → Config.lzwPrimary s.cur = some o → cap < o.length →
        capped 3 .lzwDecode) ∧
      (∀ o, s.cfg.altInflate4Present = true → Config.altInflate4 s.cur = some o → cap < o.length →
        capped 0 .flateS4) ∧
      (∀ o, s.cfg.altInflate5Present = true → Config.altInflate5 s.cur = some o → cap < o.length →
        capped 0 .flateS5) ∧
      (∀ i bm, ((∃ x, i = .faxModeIllegal x) ∨ ∃ x, i = .faxRunIllegal x) → s.eng.fax.rowsDone ≠ [] →
        bm = rowsToBitmap s.eng.fax.rowsDone s.j.desc.cColumns.toNat
          (if s.j.desc.cFlags.getLsbD 0 then s.j.desc.cRows.toNat else s.eng.fax.rowsDone.length) →
        cap < bm.length → capped 6 i) ∧
      (∀ i, ((∃ x, i = .faxModeIllegal x) ∨ ∃ x, i = .faxRunIllegal x) → s.eng.fax.rowsDone = [] →
        s.eng.fax.attempt = 2 → s.j.desc.cFlags.getLsbD 0 = true →
        cap < s.j.desc.cRows.toNat * ((s.j.desc.cColumns.toNat + 7) / 8) →
        ∃ t, exec i s = .next t ∧
          aborted .decodeError 0x7F 6 cap 0 0 0 { s with status := { s.status with ccittWhite := true } } t) ∧
      (running s → s.phase = .gray → cap < 8 * s.j.input.length →
        ∃ t, step s = .next t ∧ aborted .decodeError 0x7F 6 cap 0 0 0 s t)

/-- Every filter stage ends with the ratio check and then the size check of its output; a pass-through stage keeps the
buffer (40_orchestrator.md R133; 40_orchestrator.md R135; 40_orchestrator.md R136; 40_orchestrator.md R137;
40_orchestrator.md R138; 40_orchestrator.md R139; 40_orchestrator.md R142; 10_state.md R29; 60_exceptions.md R421;
60_exceptions.md R424; 60_exceptions.md R426; 41_flate_ladder.md R163).

That FLATE_STEP is 0 after a bomb exception of a FlateDecode stage is the reading of log 21. That the working
buffer and the codec registers are empty after an abort is the model's choice, log 11, that OUT keeps its bytes
then, log 4, and that ORIG_LEN and J stay, log 34. That the codec registers are empty after a stage is the model's
choice, log 25. Where BUF_CAP is checked is the model's reading, log 18. -/
def Obligations.StageEndsAreChecked : Prop :=
  ∀ (unit : Nat) (o : Bytes) (isPartial : Bool) (x : Host.Outcome State Fault Refusal) (s : State)
    (maxRatio maxSize : Nat), stageEnds unit o isPartial x s →
    (s.j.op = .decodeStreamOpt ∧ s.j.desc.secValid = 1 →
      maxRatio = s.j.desc.maxRatio.toNat ∧ maxSize = s.j.desc.maxSize.toNat) →
    (¬ (s.j.op = .decodeStreamOpt ∧ s.j.desc.secValid = 1) → maxRatio = 100 ∧ maxSize = 104857600) →
    let n := o.length
    let tooMuch : Prop := 0 < maxRatio ∧
      ((s.cfg.ratioCmp = .exact ∧ maxRatio * max 1 s.origLen < n) ∨
        (s.cfg.ratioCmp = .floor ∧ maxRatio < n / max 1 s.origLen))
    let logged : State := { s with
      status := { s.status with flatePartial := s.status.flatePartial || isPartial } }
    (¬ tooMuch → ¬ (0 < maxSize ∧ maxSize < n) →
      ∃ t, x = .next t ∧ stageOver o s t ∧ (unit ≠ 0 → t.status = s.status)) ∧
    (tooMuch → ∃ t, x = .next t ∧
      aborted .bomb 0x70 unit n s.origLen maxRatio (n / max 1 s.origLen) logged t) ∧
    (¬ tooMuch → 0 < maxSize ∧ maxSize < n →
      ∃ t, x = .next t ∧ aborted .bomb 0x71 unit n s.origLen maxSize 0 logged t)

/-- Completion writes the working buffer to OUT and its length to OUT_LEN (40_orchestrator.md R141; 20_memory.md R73). -/
def Obligations.CompletionDeliversTheResult : Prop :=
  ∀ s : State, running s → s.phase = .orchestrate → s.stage = s.j.desc.nfilt.toNat + 1 →
    Config.legal s.cfg = true → s.cur.length < 2 ^ s.cfg.lenBits →
    ∃ t, step s = .next t ∧ t.status = { s.status with state := .done } ∧ t.outLen.toNat = s.cur.length ∧
      (∀ a, a < s.cur.length → readByte .out t.out a = s.cur[a]?) ∧
      (∀ a, s.cur.length ≤ a → readByte .out t.out a = readByte .out s.out a) ∧
      (∀ a, readByte .flt t.flt a = readByte .flt s.flt a) ∧ (∀ a, readByte .inp t.inp a = readByte .inp s.inp a) ∧
      hostKept s t ∧ t.einfo0 = s.einfo0 ∧ t.einfo1 = s.einfo1 ∧ t.einfo2 = s.einfo2 ∧ t.einfo3 = s.einfo3

/-- A slot selects the codec of its name, every other name is unknown, and a stage step runs the slot that STAGE
numbers (10_state.md R38; 10_state.md R39; 30_encoding.md R91; 30_encoding.md R92; 40_orchestrator.md R133).

That bytes of a slot after its first 0x00 do not matter is the model's reading between R38 and R91, R92: log 12. -/
def Obligations.FilterNamesSelectTheirCodec : Prop :=
  ∀ slot : Bytes, slot.length = 32 →
    let selects : Instr → Prop := fun i =>
      decode .fname (streamL slot) = .instr i 256 ∧
        ∀ s : State, running s → s.phase = .orchestrate → s.stage < s.j.desc.nfilt.toNat →
          s.j.flt[s.stage]? = some slot → step s = exec i s
    (∀ p ∈ filterNames.zip [.flateDecode, .asciiHexDecode, .ascii85Decode, .lzwDecode, .runLengthDecode, .dctDecode,
        .ccittFaxDecode, .jbig2Decode],
      slotName slot = p.1 → selects p.2) ∧
    (slotName slot ∉ filterNames → selects (.fnameUnknown slot))

/-- A codec begins with fresh registers over the working buffer; the primary LZW path comes first where present
(40_orchestrator.md R134; 41_flate_ladder.md R161; 43_lzw.md R252; 43_lzw.md R253; 44_simple_codecs.md R281;
44_simple_codecs.md R288; 44_simple_codecs.md R297).

That the codec registers are empty after a stage is the model's choice, log 25. Where BUF_CAP is checked is the
model's reading, log 18. -/
def Obligations.CodecsBeginAtTheirFirstByte : Prop :=
  (∀ p ∈ ([(.asciiHexDecode, .hex), (.ascii85Decode, .a85), (.runLengthDecode, .rl)] : List (Instr × Phase)),
      ∀ s : State, ∃ t, exec p.1 s = .next t ∧ onlyCodec s t ∧ t.phase = p.2 ∧
        t.eng = { Engine.empty with src := s.cur }) ∧
    (∀ s : State, ∃ t, exec .flateDecode s = .next t ∧ onlyCodec s t ∧ t.phase = .ladder ∧
      t.eng = { Engine.empty with src := s.cur, ladder := ⟨1, 0, .ok, .ok⟩ }) ∧
    (∀ s : State, s.cfg.lzwPrimaryPresent = false →
      ∃ t, exec .lzwDecode s = .next t ∧ onlyCodec s t ∧ t.phase = .lzw ∧
        t.eng = { Engine.empty with src := s.cur, lzw := LzwRegs.init }) ∧
    (∀ (s : State) (o : Bytes), s.cfg.lzwPrimaryPresent = true → Config.lzwPrimary s.cur = some o →
      overCap s.cfg o.length = false → withinLimits s o.length →
      ∃ t, exec .lzwDecode s = .next t ∧ stageOver o s t ∧ t.status = s.status) ∧
    (∀ s : State, s.cfg.lzwPrimaryPresent = true → Config.lzwPrimary s.cur = none →
      ∃ t, exec .lzwDecode s = .next t ∧ hostKept s t ∧ bytesKept s t ∧ jobKept s t ∧
        t.status = { s.status with lzwFallback := true } ∧ t.phase = .lzw ∧
        t.eng = { Engine.empty with src := s.cur, lzw := LzwRegs.init })

/-- The predictor step runs the selector of the job, and begins its rows over the working buffer or leaves it alone
(45_predictor.md R320; 45_predictor.md R321; 45_predictor.md R323; 45_predictor.md R327; 45_predictor.md R328;
40_orchestrator.md R140; 40_orchestrator.md R131; 40_orchestrator.md R132; 40_orchestrator.md R133; 10_state.md
R27; 30_encoding.md R93).

That the codec registers are empty after a stage is the model's choice, log 25. -/
def Obligations.PredictorBeginsItsRows : Prop :=
  (∀ (s : State) (sel : BitVec 32), running s → s.phase = .orchestrate → s.stage = s.j.desc.nfilt.toNat →
      (s.j.op = .decodeStreamOpt ∧ s.j.desc.dpValid = 1 → sel = s.j.desc.predictor) →
      (¬ (s.j.op = .decodeStreamOpt ∧ s.j.desc.dpValid = 1) → sel = 1) →
      (∀ p ∈ ([(1, .predNone), (2, .predTiff), (10, .predPngNone), (11, .predPngSub), (12, .predPngUp),
          (13, .predPngAvg), (14, .predPngPaeth), (15, .predPngOpt)] : List (BitVec 32 × Instr)),
        sel = p.1 → step s = exec p.2 s) ∧
      (sel ∉ ([1, 2, 10, 11, 12, 13, 14, 15] : List (BitVec 32)) → step s = exec (.predIllegal sel) s)) ∧
    (∀ s : State, ∃ t, exec .predNone s = .next t ∧ stageOver s.cur s t ∧ t.status = s.status) ∧
    (∀ p ∈ ([(.predTiff, 0, none, .tiffRow), (.predPngNone, 1, some 0, .pngRow), (.predPngSub, 1, some 1, .pngRow),
        (.predPngUp, 1, some 2, .pngRow), (.predPngAvg, 1, some 3, .pngRow), (.predPngPaeth, 1, some 4, .pngRow),
        (.predPngOpt, 1, none, .pngRow)] : List (Instr × Nat × Option Nat × Phase)),
      ∀ (s : State) (pbr : Nat), s.j.desc.columns ≠ 0 → s.j.desc.colors ≠ 0 → s.j.desc.bpc ≠ 0 →
        pbr = (s.j.desc.columns.toNat * s.j.desc.colors.toNat * s.j.desc.bpc.toNat + 7) / 8 →
        s.cur.length % (pbr + p.2.1) = 0 →
        ∃ t, exec p.1 s = .next t ∧ onlyCodec s t ∧ t.phase = p.2.2.2 ∧
          t.eng = { Engine.empty with src := s.cur, pred := ⟨List.replicate pbr 0, p.2.2.1, 0⟩ })

/-- A zero parameter and a partial row abort the job, in this order (45_predictor.md R322; 45_predictor.md R324;
60_exceptions.md R421; 60_exceptions.md R426).

That the working buffer and the codec registers are empty after an abort is the model's choice, log 11, that OUT
keeps its bytes then, log 4, and that ORIG_LEN and J stay, log 34. -/
def Obligations.PredictorRefusesBadGeometry : Prop :=
  ∀ p ∈ ([(.predTiff, 2, 0), (.predPngNone, 10, 1), (.predPngSub, 11, 1), (.predPngUp, 12, 1), (.predPngAvg, 13, 1),
      (.predPngPaeth, 14, 1), (.predPngOpt, 15, 1)] : List (Instr × Nat × Nat)),
    ∀ (s : State) (row : Nat),
      row = (s.j.desc.columns.toNat * s.j.desc.colors.toNat * s.j.desc.bpc.toNat + 7) / 8 + p.2.2 →
      (s.j.desc.columns = 0 ∨ s.j.desc.colors = 0 ∨ s.j.desc.bpc = 0 →
        ∃ t, exec p.1 s = .next t ∧
          aborted .decodeError 0x62 8 p.2.1 s.j.desc.columns.toNat s.j.desc.colors.toNat s.j.desc.bpc.toNat s t) ∧
      (s.j.desc.columns ≠ 0 → s.j.desc.colors ≠ 0 → s.j.desc.bpc ≠ 0 → s.cur.length % row ≠ 0 →
        ∃ t, exec p.1 s = .next t ∧ aborted .decodeError 0x60 8 s.cur.length row 0 0 s t)

/-- The tag, implied or stored, selects the row instruction, a PNG row is decoded byte by byte as its tag says, and
the last row ends the predictor step (45_predictor.md R327; 45_predictor.md R329; 45_predictor.md R330;
45_predictor.md R331; 45_predictor.md R332; 45_predictor.md R333; 45_predictor.md R335; 45_predictor.md R328;
45_predictor.md R336; 40_orchestrator.md R140; 40_orchestrator.md R144).

That the codec registers are empty after a stage is the model's choice, log 25. Where BUF_CAP is checked is the
model's reading, log 18. -/
def Obligations.PngRowFollowsItsTag : Prop :=
  (∀ (s : State) (stored : Byte) (tag : Nat), running s → s.phase = .pngRow →
      s.eng.src[s.eng.bytePos]? = some stored → (s.eng.pred.implied = none → tag = stored.toNat) →
      (∀ k, s.eng.pred.implied = some k → k ≤ 4 ∧ tag = k) →
      let u : State := { s with eng := { s.eng with bytePos := s.eng.bytePos + 1 } }
      (∀ i, [Instr.pngNone, .pngSub, .pngUp, .pngAverage, .pngPaeth][tag]? = some i → step s = exec i u) ∧
        (4 < tag → step s = exec (.pngTagIllegal stored) u)) ∧
  (∀ s : State, bytesUsedUp .pngRow s →
    ∃ t, step s = .next t ∧ stageOver s.eng.out s t ∧ t.status = s.status) ∧
  ∀ p ∈ ([(.pngNone, fun _ _ _ => 0), (.pngSub, fun l _ _ => l.toNat), (.pngUp, fun _ u _ => u.toNat),
      (.pngAverage, fun l u _ => (l.toNat + u.toNat) / 2),
      (.pngPaeth, fun l u c => paeth l.toNat u.toNat c.toNat)] : List (Instr × (Byte → Byte → Byte → Nat))),
    ∀ s : State, s.j.desc.colors ≠ 0 → s.eng.bytePos + pixelBytes s.j.desc ≤ s.eng.src.length →
      overCap s.cfg (s.eng.out.length + pixelBytes s.j.desc) = false →
      ∃ (t : State) (row : Bytes), exec p.1 s = .next t ∧ onlyCodec s t ∧ t.phase = s.phase ∧
        row.length = pixelBytes s.j.desc ∧
        t.eng = { s.eng with
          out := s.eng.out ++ row
          bytePos := s.eng.bytePos + pixelBytes s.j.desc
          pred := { s.eng.pred with prevRow := row, row := s.eng.pred.row + 1 } } ∧
        ∀ i, i < pixelBytes s.j.desc →
          row.getD i 0 = s.eng.src.getD (s.eng.bytePos + i) 0 +
            BitVec.ofNat 8 (p.2 (if s.j.desc.colors.toNat ≤ i then row.getD (i - s.j.desc.colors.toNat) 0 else 0)
              (s.eng.pred.prevRow.getD i 0)
              (if s.j.desc.colors.toNat ≤ i then s.eng.pred.prevRow.getD (i - s.j.desc.colors.toNat) 0 else 0))

/-- Paeth gives the operand closest to left + up - upLeft, ties to left, then up (45_predictor.md R334). -/
def Obligations.PaethPicksTheClosest : Prop :=
  ∀ a b c : Nat,
    let d : Nat → Nat := fun x => (((a : Int) + b - c) - x).natAbs
    (paeth a b c = a ∨ paeth a b c = b ∨ paeth a b c = c) ∧
      d (paeth a b c) ≤ d a ∧ d (paeth a b c) ≤ d b ∧ d (paeth a b c) ≤ d c ∧
      (d a ≤ d b → d a ≤ d c → paeth a b c = a) ∧
      (¬ (d a ≤ d b ∧ d a ≤ d c) → d b ≤ d c → paeth a b c = b)

/-- A TIFF row adds to each byte the decoded byte COLORS before it, and the last row ends the predictor step
(45_predictor.md R325; 10_state.md R43; 45_predictor.md R336; 40_orchestrator.md R140; 40_orchestrator.md R144).

That the codec registers are empty after a stage is the model's choice, log 25. Where BUF_CAP is checked is the
model's reading, log 18. -/
def Obligations.TiffRowAddsTheLeftNeighbour : Prop :=
  (∀ s : State, running s → s.phase = .tiffRow → s.eng.bytePos < s.eng.src.length → step s = exec .tiffRow s) ∧
  (∀ s : State, bytesUsedUp .tiffRow s →
    ∃ t, step s = .next t ∧ stageOver s.eng.out s t ∧ t.status = s.status) ∧
  ∀ s : State, s.j.desc.colors ≠ 0 → s.eng.bytePos + pixelBytes s.j.desc ≤ s.eng.src.length →
    overCap s.cfg (s.eng.out.length + pixelBytes s.j.desc) = false →
    ∃ (t : State) (row : Bytes), exec .tiffRow s = .next t ∧ onlyCodec s t ∧ t.phase = s.phase ∧
      row.length = pixelBytes s.j.desc ∧
      t.eng = { s.eng with
        out := s.eng.out ++ row
        bytePos := s.eng.bytePos + pixelBytes s.j.desc } ∧
      ∀ i, i < pixelBytes s.j.desc →
        row.getD i 0 = s.eng.src.getD (s.eng.bytePos + i) 0 +
          (if s.j.desc.colors.toNat ≤ i then row.getD (i - s.j.desc.colors.toNat) 0 else 0)

/-- Each ladder strategy begins a fresh run over the stage input (41_flate_ladder.md R162; 41_flate_ladder.md R164;
41_flate_ladder.md R165; 41_flate_ladder.md R166; 41_flate_ladder.md R169; 41_flate_ladder.md R170;
42_inflate_engine.md R193). -/
def Obligations.StrategiesBeginTheirRuns : Prop :=
  (∀ p ∈ ([(.flateS1, 1, true, 0), (.flateS2, 2, false, 0), (.flateS3, 3, false, 16)] :
        List (Instr × Nat × Bool × Nat)),
      ∀ s : State, ∃ t, exec p.1 s = .next t ∧ onlyCodec s t ∧ t.phase = (if p.2.2.1 then .zlibHdr else .block) ∧
        t.eng = { Engine.empty with
          src := s.cur, bitPos := p.2.2.2, inflate := InflateRegs.init p.2.2.1
          ladder := { s.eng.ladder with step := p.2.1 } }) ∧
    (∀ s : State, ∃ t, exec .flateS7 s = .next t ∧ onlyCodec s t ∧ t.phase = .block ∧
      t.eng = { Engine.empty with
        src := s.cur, bitPos := 8, inflate := InflateRegs.init false
        ladder := { s.eng.ladder with step := 7, off := 1 } }) ∧
    (∀ (s : State) (c : Byte) (rest : Bytes), s.cur = c :: rest → c.toNat % 16 ≠ 8 →
      ∃ t, exec .flateS6 s = .next t ∧ onlyCodec s t ∧ t.phase = .zlibHdr ∧
        t.eng = { Engine.empty with
          src := ((c &&& 0xF0) ||| 8) :: rest, inflate := InflateRegs.init true
          ladder := { s.eng.ladder with step := 6 } }) ∧
    (∀ s : State, (∀ c rest, s.cur = c :: rest → c.toNat % 16 = 8) →
      ∃ t, exec .flateS6 s = .next t ∧ onlyCodec s t ∧ t.phase = .ladder ∧
        t.eng = { Engine.empty with ladder := { s.eng.ladder with step := 7 } })

/-- FLATE_S4 and FLATE_S5 answer with their configuration function where it is present (41_flate_ladder.md R167;
41_flate_ladder.md R168; 41_flate_ladder.md R162).

That the codec registers are empty after a stage is the model's choice, log 25. Where BUF_CAP is checked is the
model's reading, log 18. -/
def Obligations.AlternativeInflatersMayAnswer : Prop :=
  ∀ (n : Nat) (i : Instr) (f : Bytes → Option Bytes) (s : State) (present : Bool),
    (n = 4 ∧ i = .flateS4 ∧ f = Config.altInflate4 ∧ present = s.cfg.altInflate4Present) ∨
      (n = 5 ∧ i = .flateS5 ∧ f = Config.altInflate5 ∧ present = s.cfg.altInflate5Present) →
    (present = false ∨ f s.cur = none ∨ f s.cur = some [] →
      ∃ t, exec i s = .next t ∧ onlyCodec s t ∧ t.phase = .ladder ∧
        t.eng = { Engine.empty with ladder := { s.eng.ladder with step := n + 1 } }) ∧
    (∀ o, present = true → f s.cur = some o → o ≠ [] → overCap s.cfg o.length = false → withinLimits s o.length →
      ∃ t, exec i s = .next t ∧ stageOver o s t ∧ t.status = { s.status with flateStep := BitVec.ofNat 3 n })

/-- The end of an inflate run with accepted output ends the stage and writes the Flate log (41_flate_ladder.md R162;
41_flate_ladder.md R163; 41_flate_ladder.md R170; 42_inflate_engine.md R192; 42_inflate_engine.md R197;
42_inflate_engine.md R198; 42_inflate_engine.md R191; 42_inflate_engine.md R201; 42_inflate_engine.md R202;
42_inflate_engine.md R204).

That the codec registers are empty after a stage is the model's choice, log 25. -/
def Obligations.FlateOutputIsAccepted : Prop :=
  ∀ (o : Host.Outcome State Fault Refusal) (s : State) (isPartial : Bool), runAccepted o s isPartial →
    withinLimits s s.eng.out.length →
    ∃ t, o = .next t ∧ stageOver s.eng.out s t ∧
      t.status = { s.status with
        flateStep := BitVec.ofNat 3 s.eng.ladder.step, flatePartial := s.status.flatePartial || isPartial }

/-- A run without accepted output leads to the next strategy, the next offset or the exception (41_flate_ladder.md
R162; 41_flate_ladder.md R170; 41_flate_ladder.md R172; 42_inflate_engine.md R191; 42_inflate_engine.md R198;
42_inflate_engine.md R204; 41_flate_ladder.md R163; 42_inflate_engine.md R197; 42_inflate_engine.md R201;
42_inflate_engine.md R202; 60_exceptions.md R421; 60_exceptions.md R426).

That the working buffer and the codec registers are empty after an abort is the model's choice, log 11, that OUT
keeps its bytes then, log 4, and that ORIG_LEN and J stay, log 34. -/
def Obligations.FlateFailureGoesOn : Prop :=
  ∀ (o : Host.Outcome State Fault Refusal) (s : State) (e : IStatus) (next : Nat),
    (∃ x, o = exec (.llIllegal x) s ∧ e = .badLlsym) ∨ (∃ x, o = exec (.dIllegal x) s ∧ e = .badDsym) ∨
      (∃ f, o = exec (.blkReserved f) s ∧ e = .btype) ∨ (o = step s ∧ inflateCut s e) ∨
      (∃ v : BitVec 32, o = exec (.zlibTrailer v) s ∧ v.toNat ≠ adler32 s.eng.out ∧ e = .adler) ∨
      (∃ v : BitVec 32, o = exec (.zlibTrailer v) s ∧ v.toNat = adler32 s.eng.out ∧ e = .empty) ∨
      (o = exec .eob s ∧ s.eng.inflate.bfinal = true ∧ s.eng.inflate.zlib = false ∧ e = .empty) →
    next = (if s.eng.ladder.off = 1 then 3 else s.eng.ladder.off + 1) →
    (s.eng.ladder.step < 7 → s.eng.out = [] → ¬ (e = .empty ∧ s.cfg.acceptCleanEmpty = true) →
      ∃ t, o = .next t ∧ onlyCodec s t ∧ t.phase = .ladder ∧
        t.eng = { Engine.empty with
          ladder :=
            { step := s.eng.ladder.step + 1
              off := s.eng.ladder.off
              e1 := if s.eng.ladder.step = 1 then e else s.eng.ladder.e1
              e2 := if s.eng.ladder.step = 2 then e else s.eng.ladder.e2 } }) ∧
    (s.eng.ladder.step = 7 → hasTextOp s.eng.out = false → next ≤ 20 →
      ∃ t, o = .next t ∧ onlyCodec s t ∧ t.phase = .block ∧
        t.eng = { Engine.empty with
          src := s.cur, bitPos := 8 * next, inflate := InflateRegs.init false
          ladder := { s.eng.ladder with off := next } }) ∧
    (s.eng.ladder.step = 7 → hasTextOp s.eng.out = false → 20 < next →
      ∃ t, o = .next t ∧
        aborted .decodeError 0x50 0 s.cur.length (istatusNumber s.eng.ladder.e1) (istatusNumber s.eng.ladder.e2) 0 s t)

/-- HasTextOp holds exactly where one of the six pairs stands (41_flate_ladder.md R171). -/
def Obligations.TextOperatorTest : Prop :=
  ∀ o : Bytes, hasTextOp o = true ↔
    ∃ k, ∃ p ∈ ([(0x42, 0x54), (0x45, 0x54), (0x54, 0x6A), (0x54, 0x4A), (0x54, 0x6D), (0x54, 0x64)] :
      List (Byte × Byte)), o[k]? = some p.1 ∧ o[k + 1]? = some p.2

/-- The zlib header passes or fails by four checks in order (42_inflate_engine.md R195). -/
def Obligations.ZlibHeaderChecksInOrder : Prop :=
  ∀ (cmf flg : Byte) (s : State),
    let check := (cmf.toNat * 256 + flg.toNat) % 31 = 0
    let method := cmf &&& 0x0F = 8
    let window := (cmf >>> 4).toNat ≤ 7
    let noDict := flg.getLsbD 5 = false
    (check → method → window → noDict →
      ∃ t, exec (.zlibHdr cmf flg) s = .next t ∧ onlyCodec s t ∧ t.phase = .block ∧ t.eng = s.eng) ∧
    (¬ check → exec (.zlibHdr cmf flg) s = .next (runEnd .zhdrCheck s)) ∧
    (check → ¬ method → exec (.zlibHdr cmf flg) s = .next (runEnd .zhdrMethod s)) ∧
    (check → method → ¬ window → exec (.zlibHdr cmf flg) s = .next (runEnd .zhdrWindow s)) ∧
    (check → method → window → ¬ noDict → exec (.zlibHdr cmf flg) s = .next (runEnd .zhdrDict s))

/-- A fixed block goes to its symbols with the fixed tables, a dynamic block to its header (42_inflate_engine.md R198;
42_inflate_engine.md R200; 42_inflate_engine.md R201). -/
def Obligations.BlockHeadersSelectTheirBody : Prop :=
  ∀ (final : Bool) (s : State),
    (∃ t, exec (.blkFixed final) s = .next t ∧ onlyCodec s t ∧ t.phase = .llSym ∧
      t.eng = { s.eng with
        inflate := { s.eng.inflate with
          bfinal := final
          ll := canonicalTable
            (List.replicate 144 8 ++ List.replicate 112 9 ++ List.replicate 24 7 ++ List.replicate 8 8)
          dd := canonicalTable (List.replicate 32 5) } }) ∧
    (∃ t, exec (.blkDynamic final) s = .next t ∧ onlyCodec s t ∧ t.phase = .dynHdr ∧
      t.eng = { s.eng with inflate := { s.eng.inflate with bfinal := final } })

/-- A stored block copies LEN bytes from the next byte boundary (42_inflate_engine.md R199; 20_memory.md R67).

Where BUF_CAP is checked is the model's reading, log 18. -/
def Obligations.StoredBlockCopiesItsBytes : Prop :=
  ∀ (final : Bool) (s : State) (p : Nat), p = (s.eng.bitPos + 7) / 8 →
    (∀ (l0 l1 n0 n1 : Byte) (data : Bytes) (n : Nat), s.eng.src.drop p = l0 :: l1 :: n0 :: n1 :: data →
      n = l0.toNat + 256 * l1.toNat →
      (n + (n0.toNat + 256 * n1.toNat) = 65535 → n ≤ data.length →
        overCap s.cfg (s.eng.out.length + n) = false → final = false ∨ s.eng.inflate.zlib = true →
        ∃ t, exec (.blkStored final) s = .next t ∧ onlyCodec s t ∧
          t.phase = (if final then .zlibTrailer else .block) ∧
          t.eng = { s.eng with
            out := s.eng.out ++ data.take n
            bitPos := 8 * (p + 4 + n)
            inflate := { s.eng.inflate with bfinal := final } }) ∧
      (n + (n0.toNat + 256 * n1.toNat) = 65535 → n ≤ data.length →
        overCap s.cfg (s.eng.out.length + n) = false → final = true → s.eng.inflate.zlib = false →
        exec (.blkStored final) s = .next (runEnd .ok { s with
          eng := { s.eng with
            out := s.eng.out ++ data.take n
            bitPos := 8 * (p + 4 + n)
            inflate := { s.eng.inflate with bfinal := true } } })) ∧
      (n + (n0.toNat + 256 * n1.toNat) = 65535 → data.length < n →
        overCap s.cfg (s.eng.out.length + data.length) = false →
        exec (.blkStored final) s = .next (runEnd .eof { s with
          eng := { s.eng with
            out := s.eng.out ++ data
            bitPos := 8 * (p + 4 + data.length)
            inflate := { s.eng.inflate with bfinal := final } } })) ∧
      (n + (n0.toNat + 256 * n1.toNat) ≠ 65535 →
        exec (.blkStored final) s = .next (runEnd .storedLen (alignBits (setFinal final s))))) ∧
    ((s.eng.src.drop p).length < 4 →
      exec (.blkStored final) s = .next (runEnd .eof (alignBits (setFinal final s))))

/-- A dynamic header reads the code-length lengths in their order and builds their table, or ends the run with its
error (42_inflate_engine.md R201; 30_encoding.md R97; 42_inflate_engine.md R202; 42_inflate_engine.md R191). -/
def Obligations.DynamicHeaderBuildsTheLengthCode : Prop :=
  ∀ (hlit hdist : BitVec 5) (hclen : BitVec 4) (s : State),
    (hlit.toNat + 257 ≤ 286 → hdist.toNat + 1 ≤ 30 → ∀ (triples lengths : List Nat),
      triples.length = hclen.toNat + 4 → (∀ x ∈ triples, x < 8) →
      (∃ rest, (streamL s.eng.src).drop s.eng.bitPos = triples.flatMap (bitsL 3) ++ rest) →
      lengths.length = 19 →
      (∀ k sym, [16, 17, 18, 0, 8, 7, 9, 6, 10, 5, 11, 4, 12, 3, 13, 2, 14, 1, 15][k]? = some sym →
        lengths[sym]? = some (triples.getD k 0)) →
      (∀ clt, buildCode .cl lengths = .ok clt →
        ∃ t, exec (.dynHdr hlit hdist hclen) s = .next t ∧ onlyCodec s t ∧ t.phase = .clSym ∧
          t.eng = { s.eng with
            bitPos := s.eng.bitPos + 3 * (hclen.toNat + 4)
            inflate := { s.eng.inflate with
              hlit := hlit.toNat + 257, hdist := hdist.toNat + 1, clt := clt, lens := [] } }) ∧
      (∀ e, buildCode .cl lengths = .error e → exec (.dynHdr hlit hdist hclen) s = .next (runEnd e s))) ∧
    (hlit.toNat + 257 ≤ 286 → hdist.toNat + 1 ≤ 30 →
      ((streamL s.eng.src).drop s.eng.bitPos).length < 3 * (hclen.toNat + 4) →
      exec (.dynHdr hlit hdist hclen) s = .next (runEnd .eof s)) ∧
    (286 < hlit.toNat + 257 ∨ 30 < hdist.toNat + 1 →
      exec (.dynHdr hlit hdist hclen) s = .next (runEnd .tooMany s))

/-- Code-length symbols append their lengths; the last one builds the two tables, or ends the run with its error
(42_inflate_engine.md R201; 30_encoding.md R97; 42_inflate_engine.md R202; 42_inflate_engine.md R191). -/
def Obligations.CodeLengthSymbolsAppend : Prop :=
  (∀ (x : BitVec 2) (s : State), s.eng.inflate.lens = [] → exec (.clCopy x) s = .next (runEnd .badRepeat s)) ∧
  ∀ (i : Instr) (s : State) (v n total : Nat), repeatOf s.eng.inflate.lens i = some (v, n) →
    total = s.eng.inflate.hlit + s.eng.inflate.hdist →
    (s.eng.inflate.lens.length + n < total →
      ∃ t, exec i s = .next t ∧ onlyCodec s t ∧ t.phase = .clSym ∧
        t.eng = { s.eng with
          inflate := { s.eng.inflate with lens := s.eng.inflate.lens ++ List.replicate n v } }) ∧
    (∀ ll dd lens, lens = s.eng.inflate.lens ++ List.replicate n v → lens.length = total → lens.getD 256 0 ≠ 0 →
      buildCode .ll (lens.take s.eng.inflate.hlit) = .ok ll → buildCode .d (lens.drop s.eng.inflate.hlit) = .ok dd →
      ∃ t, exec i s = .next t ∧ onlyCodec s t ∧ t.phase = .llSym ∧
        t.eng = { s.eng with inflate := { s.eng.inflate with lens := lens, ll := ll, dd := dd } }) ∧
    (∀ lens, lens = s.eng.inflate.lens ++ List.replicate n v → lens.length = total →
      (lens.getD 256 0 = 0 → exec i s = .next (runEnd .noEob s)) ∧
      (∀ e, lens.getD 256 0 ≠ 0 → buildCode .ll (lens.take s.eng.inflate.hlit) = .error e →
        exec i s = .next (runEnd e s)) ∧
      (∀ e ll, lens.getD 256 0 ≠ 0 → buildCode .ll (lens.take s.eng.inflate.hlit) = .ok ll →
        buildCode .d (lens.drop s.eng.inflate.hlit) = .error e → exec i s = .next (runEnd e s))) ∧
    (total < s.eng.inflate.lens.length + n → exec i s = .next (runEnd .badRepeat s))

/-- A literal appends its byte; the end of a block leads to the next block or to the trailer (42_inflate_engine.md
R204; 42_inflate_engine.md R198; 42_inflate_engine.md R194).

Where BUF_CAP is checked is the model's reading, log 18. -/
def Obligations.LiteralsAndBlockEnds : Prop :=
  (∀ (b : Byte) (s : State), overCap s.cfg (s.eng.out.length + 1) = false →
      ∃ t, exec (.lit b) s = .next t ∧ onlyCodec s t ∧ t.phase = .llSym ∧
        t.eng = { s.eng with out := s.eng.out ++ [b] }) ∧
    (∀ s : State, s.eng.inflate.bfinal = false →
      ∃ t, exec .eob s = .next t ∧ onlyCodec s t ∧ t.phase = .block ∧ t.eng = s.eng) ∧
    (∀ s : State, s.eng.inflate.bfinal = true → s.eng.inflate.zlib = true →
      ∃ t p, exec .eob s = .next t ∧ onlyCodec s t ∧ t.phase = .zlibTrailer ∧
        t.eng = { s.eng with bitPos := 8 * p } ∧ s.eng.bitPos ≤ 8 * p ∧ 8 * p < s.eng.bitPos + 8)

/-- A length symbol gives a match length of 3 to 258 by the table, and the distance comes next (42_inflate_engine.md
R203; 42_inflate_engine.md R204). -/
def Obligations.LengthSymbolsGiveTheirLength : Prop :=
  ∀ (i : Instr) (n : Nat) (s : State), lengthOf i = some n →
    3 ≤ n ∧ n ≤ 258 ∧ ∃ t, exec i s = .next t ∧ onlyCodec s t ∧ t.phase = .dSym ∧
      t.eng = { s.eng with inflate := { s.eng.inflate with matchLen := n } }

/-- A distance symbol copies the match, each byte from that many bytes before it (42_inflate_engine.md R203;
42_inflate_engine.md R204; 42_inflate_engine.md R206).

Where BUF_CAP is checked is the model's reading, log 18. -/
def Obligations.DistanceSymbolsCopyTheirMatch : Prop :=
  ∀ (i : Instr) (d : Nat) (s : State), distanceOf i = some d →
    1 ≤ d ∧ d ≤ 32768 ∧
      (d ≤ s.eng.out.length → overCap s.cfg (s.eng.out.length + s.eng.inflate.matchLen) = false →
        ∃ (t : State) (copied : Bytes), exec i s = .next t ∧ onlyCodec s t ∧ t.phase = .llSym ∧
          t.eng = { s.eng with out := s.eng.out ++ copied } ∧ copied.length = s.eng.inflate.matchLen ∧
          ∀ k, k < s.eng.inflate.matchLen →
            (s.eng.out ++ copied)[s.eng.out.length + k]? = (s.eng.out ++ copied)[s.eng.out.length + k - d]?) ∧
      (s.eng.out.length < d → exec i s = .next (runEnd .dist s))

/-- Adler-32 is the two sums modulo 65521 (42_inflate_engine.md R205). -/
def Obligations.AdlerIsTheTwoSums : Prop :=
  ∀ o : Bytes,
    adler32 o % 65536 = (1 + (o.map BitVec.toNat).sum) % 65521 ∧
      adler32 o / 65536 =
        (o.length + ((List.range o.length).map fun k => (o.length - k) * (o.getD k 0).toNat).sum) % 65521

/-- BuildCode accepts exactly the complete sets, and the small ones R202 admits, and its table is the canonical prefix
code for exactly the symbols in use (42_inflate_engine.md R202). -/
def Obligations.BuildCodeGivesAPrefixCode : Prop :=
  (∀ (kind : CodeKind) (lengths : List Nat) (sum : Nat), (∀ l ∈ lengths, l ≤ 15) →
    sum = (lengths.map fun l => if l = 0 then 0 else 2 ^ (15 - l)).sum →
    let strict : Prop := kind = .cl ∨ ∃ l ∈ lengths, 1 < l
    (2 ^ 15 < sum → buildCode kind lengths = .error .oversub) ∧
    (sum < 2 ^ 15 → strict → buildCode kind lengths = .error .incomplete) ∧
    (sum = 2 ^ 15 ∨ (sum < 2 ^ 15 ∧ ¬ strict) → ∃ t, buildCode kind lengths = .ok t)) ∧
  ∀ (kind : CodeKind) (lengths : List Nat) (t : HuffTable), (∀ l ∈ lengths, l ≤ 15) →
    buildCode kind lengths = .ok t →
    tableWf t ∧ (∀ e ∈ t, lengths[e.sym]? = some e.len) ∧
      (∀ sym l, lengths[sym]? = some l → 0 < l → ∃ e ∈ t, e.sym = sym ∧ e.len = l) ∧
      ∀ e ∈ t, e.code =
        ((List.range e.len).map fun l => if l = 0 then 0 else lengths.count l * 2 ^ (e.len - l)).sum +
          (lengths.take e.sym).count e.len

/-- Decoding the encoding of a well-formed instruction gives it back, in every format (30_encoding.md R90;
30_encoding.md R91; 30_encoding.md R93; 30_encoding.md R96; 30_encoding.md R97; 30_encoding.md R98; 30_encoding.md
R99; 30_encoding.md R100; 30_encoding.md R103; 30_encoding.md R104; 30_encoding.md R105; 30_encoding.md R109). -/
def Obligations.DecodeInvertsEncode : Prop :=
  ∀ (f : Format) (i : Instr) (bs rest : List Bool), formatWf f → i.wf = true → encode f i = some bs →
    decode f (bs ++ rest) = .instr i bs.length

/-- What the decoder answers is well-formed and lies in the bits given (30_encoding.md R107; 30_encoding.md R109). -/
def Obligations.DecodedInstructionsAreWellFormed : Prop :=
  ∀ (f : Format) (bs : List Bool) (i : Instr) (used : Nat), formatWf f → decode f bs = .instr i used →
    i.wf = true ∧ used ≤ bs.length

/-- Words written out from the spec decode to their instructions (30_encoding.md R95; 30_encoding.md R96;
30_encoding.md R98; 30_encoding.md R99; 30_encoding.md R100; 30_encoding.md R101; 30_encoding.md R104;
47_fax_engine.md R387; 47_fax_engine.md R389; 47_fax_engine.md R390). -/
def Obligations.KnownWordsDecode : Prop :=
  decode .zlibHdr (streamL [0x78, 0x9C]) = .instr (.zlibHdr 0x78 0x9C) 16 ∧
    decode .deflateBlk (streamL [0x4B]) = .instr (.blkFixed true) 3 ∧
    decode (.llSym fixedLl) [true, false, false, true, false, false, false, true] = .instr (.lit 0x61) 8 ∧
    decode (.lzwCode 9 258 false) (streamM [0x80, 0x0B]) = .instr .lzwClear 9 ∧
    decode .rlByte (streamM [0xFE]) = .instr (.rlRepeat 126) 8 ∧
    decode (.hexChar Config.default.ws false) (streamM [0x34]) = .instr (.hexDigit 0x34) 8 ∧
    decode (.a85Char Config.default.ws) (streamM [0x7A]) = .instr .a85Z 8 ∧
    decode .faxMode [false, false, false, false, false, true, false] = .instr .faxVl3 7 ∧
    decode (.faxRun .white) [true, false, false, false] = .instr .wT3 4 ∧
    decode (.faxRun .black) [false, false, true, true] = .instr .bT5 4 ∧
    decode (.faxRun .black) [false, false, false, false, false, false, false, true, true, true, true, true] =
      .instr .xM2560 12

/-- An LZW data code emits its string and inserts the previous string with its first byte (43_lzw.md R252; 43_lzw.md
R256; 43_lzw.md R257; 43_lzw.md R258; 60_exceptions.md R421; 60_exceptions.md R426).

The fault of LZW_KWKWK at NEXT_CODE = 4096 is the model's choice (log 31). That the working buffer and the codec
registers are empty after an abort is the model's choice, log 11, that OUT keeps its bytes then, log 4, and that
ORIG_LEN and J stay, log 34. That the codec registers are empty after a stage is the model's choice, log 25. Where
BUF_CAP is checked is the model's reading, log 18. -/
def Obligations.LzwDataCodesGrowTheTable : Prop :=
  (∀ (i : Instr) (s : State) (str : Bytes) (entry : List Bytes),
      ((∃ b, i = .lzwLit b ∧ str = [b]) ∨
        (∃ c : BitVec 16, i = .lzwRef c ∧ 258 ≤ c.toNat ∧ c.toNat < s.eng.lzw.nextCode ∧
          s.eng.lzw.tab[c.toNat - 258]? = some str) ∨
        (∃ p, i = .lzwKwkwk ∧ s.eng.lzw.prev = some p ∧ s.eng.lzw.nextCode < 4096 ∧ str = p ++ p.take 1)) →
      (s.eng.lzw.prev = none ∨ 4096 ≤ s.eng.lzw.nextCode → entry = []) →
      (∀ p, s.eng.lzw.prev = some p → s.eng.lzw.nextCode < 4096 → entry = [p ++ str.take 1]) →
      overCap s.cfg (s.eng.out.length + str.length) = false →
      ∃ t, exec i s = .next t ∧ onlyCodec s t ∧ t.phase = s.phase ∧
        t.eng = { s.eng with
          out := s.eng.out ++ str
          lzw :=
            { s.eng.lzw with
              tab := s.eng.lzw.tab ++ entry
              nextCode := s.eng.lzw.nextCode + entry.length
              prev := some str } }) ∧
    (∀ s : State, s.eng.lzw.prev = none ∨ 4096 ≤ s.eng.lzw.nextCode →
      ∃ t, exec .lzwKwkwk s = .next t ∧
        aborted .decodeError 0x40 3 s.eng.lzw.nextCode s.eng.lzw.nextCode 0 0 s t) ∧
    (∀ (s : State) (c : BitVec 16), 258 ≤ c.toNat →
      s.eng.lzw.nextCode ≤ c.toNat ∨ s.eng.lzw.tab[c.toNat - 258]? = none →
      ∃ t, exec (.lzwRef c) s = .next t ∧ aborted .decodeError 0x40 3 c.toNat s.eng.lzw.nextCode 0 0 s t) ∧
    (∀ s : State, ∃ t, exec .lzwClear s = .next t ∧ onlyCodec s t ∧ t.phase = s.phase ∧
      t.eng = { s.eng with lzw := ⟨[], 258, 9, none⟩ }) ∧
    (∀ s : State, withinLimits s s.eng.out.length →
      ∃ t, exec .lzwEod s = .next t ∧ stageOver s.eng.out s t ∧ t.status = s.status)

/-- The LZW code width grows before the read when NEXT_CODE is 2^CODE_BITS - 1 (43_lzw.md R255; 43_lzw.md R260;
43_lzw.md R251).

That the codec registers are empty after a stage is the model's choice, log 25. -/
def Obligations.CodeWidthGrowsEarly : Prop :=
  ∀ (s : State) (width : Nat), running s → s.phase = .lzw →
    width = (if s.eng.lzw.nextCode = 2 ^ s.eng.lzw.codeBits - 1 ∧ s.eng.lzw.codeBits < s.cfg.lzwMaxBits then
      s.eng.lzw.codeBits + 1 else s.eng.lzw.codeBits) →
    (∀ i used, decode (.lzwCode width s.eng.lzw.nextCode s.eng.lzw.prev.isSome) (restM s) = .instr i used →
      used = width ∧ step s = exec i { s with
        eng := { s.eng with bitPos := s.eng.bitPos + width, lzw := { s.eng.lzw with codeBits := width } } }) ∧
    ((restM s).length < width → withinLimits s s.eng.out.length →
      ∃ t, step s = .next t ∧ stageOver s.eng.out s t ∧ t.status = s.status)

/-- ASCIIHex and ASCII85 characters build their bytes digit by digit; an odd last hexadecimal digit is padded with 0
(44_simple_codecs.md R281; 44_simple_codecs.md R282; 44_simple_codecs.md R283; 44_simple_codecs.md R289;
44_simple_codecs.md R290; 44_simple_codecs.md R291; 44_simple_codecs.md R292; 44_simple_codecs.md R285;
60_exceptions.md R421; 60_exceptions.md R426).

That HEX_WS and HEX_EOD change nothing is the one-pass reading of log 23, the model's. That the working buffer and
the codec registers are empty after an abort is the model's choice, log 11, that OUT keeps its bytes then, log 4,
and that ORIG_LEN and J stay, log 34. That the codec registers are empty after a stage is the model's choice, log
25. Where BUF_CAP is checked is the model's reading, log 18. -/
def Obligations.AsciiCharactersBuildTheirBytes : Prop :=
  (∀ (c : Byte) (s : State), exec (.hexWs c) s = .next s ∧ exec .hexEod s = .next s ∧ exec (.a85Ws c) s = .next s) ∧
    (∀ (c : Byte) (v : BitVec 4) (s : State), hexVal c = some v →
      (s.eng.hi = none →
        ∃ t, exec (.hexDigit c) s = .next t ∧ onlyCodec s t ∧ t.phase = s.phase ∧
          t.eng = { s.eng with hi := some v }) ∧
      (∀ h, s.eng.hi = some h → overCap s.cfg (s.eng.out.length + 1) = false →
        ∃ t, exec (.hexDigit c) s = .next t ∧ onlyCodec s t ∧ t.phase = s.phase ∧
          t.eng = { s.eng with hi := none, out := s.eng.out ++ [BitVec.ofNat 8 (16 * h.toNat + v.toNat)] })) ∧
    (∀ s : State, running s → s.phase = .hex → s.eng.src.length ≤ s.eng.bytePos →
      (s.eng.hi = none → withinLimits s s.eng.out.length →
        ∃ t, step s = .next t ∧ stageOver s.eng.out s t ∧ t.status = s.status) ∧
      (∀ h, s.eng.hi = some h → overCap s.cfg (s.eng.out.length + 1) = false →
        withinLimits s (s.eng.out.length + 1) →
        ∃ t, step s = .next t ∧ stageOver (s.eng.out ++ [BitVec.ofNat 8 (16 * h.toNat)]) s t ∧
          t.status = s.status)) ∧
    (∀ (c : Byte) (v : Nat) (s : State), isA85Digit c = true → v = 85 * s.eng.acc + (c.toNat - 0x21) →
      (s.eng.ngrp < 4 →
        ∃ t, exec (.a85Digit c) s = .next t ∧ onlyCodec s t ∧ t.phase = s.phase ∧
          t.eng = { s.eng with acc := v, ngrp := s.eng.ngrp + 1 }) ∧
      (s.eng.ngrp = 4 → v < 2 ^ 32 → overCap s.cfg (s.eng.out.length + 4) = false →
        ∃ t, exec (.a85Digit c) s = .next t ∧ onlyCodec s t ∧ t.phase = s.phase ∧
          t.eng = { s.eng with
            acc := 0, ngrp := 0
            out := s.eng.out ++ [BitVec.ofNat 8 (v / 2 ^ 24), BitVec.ofNat 8 (v / 2 ^ 16), BitVec.ofNat 8 (v / 2 ^ 8),
              BitVec.ofNat 8 v] }) ∧
      (s.eng.ngrp = 4 → 2 ^ 32 ≤ v →
        ∃ t, exec (.a85Digit c) s = .next t ∧ aborted .decodeError 0x23 2 0 0 0 0 s t)) ∧
    (∀ s : State,
      (s.eng.ngrp = 0 → overCap s.cfg (s.eng.out.length + 4) = false →
        ∃ t, exec .a85Z s = .next t ∧ onlyCodec s t ∧ t.phase = s.phase ∧
          t.eng = { s.eng with out := s.eng.out ++ [0, 0, 0, 0] }) ∧
      (s.eng.ngrp ≠ 0 → ∃ t, exec .a85Z s = .next t ∧ aborted .decodeError 0x21 2 0 0 0 0 s t))

/-- The end of ASCII85 data emits all but one byte of the padded final group (44_simple_codecs.md R293;
44_simple_codecs.md R295; 60_exceptions.md R421; 60_exceptions.md R426).

That the working buffer and the codec registers are empty after an abort is the model's choice, log 11, that OUT
keeps its bytes then, log 4, and that ORIG_LEN and J stay, log 34. That the codec registers are empty after a
stage is the model's choice, log 25. Where BUF_CAP is checked is the model's reading, log 18. -/
def Obligations.Ascii85FinalGroup : Prop :=
  (∀ s : State, running s → s.phase = .a85 → s.eng.src.length ≤ s.eng.bytePos → step s = exec .a85Term s) ∧
  ∀ (s : State) (n v : Nat), n = s.eng.ngrp → v = (s.eng.acc + 1) * 85 ^ (5 - n) - 1 →
    (n = 0 → withinLimits s s.eng.out.length →
      ∃ t, exec .a85Term s = .next t ∧ stageOver s.eng.out s t ∧ t.status = s.status) ∧
    (n = 1 → ∃ t, exec .a85Term s = .next t ∧ aborted .decodeError 0x22 2 0 0 0 0 s t) ∧
    (2 ≤ n → n ≤ 4 → v < 2 ^ 32 → overCap s.cfg (s.eng.out.length + (n - 1)) = false →
      withinLimits s (s.eng.out.length + (n - 1)) →
      ∃ (t : State) (o : Bytes), exec .a85Term s = .next t ∧ stageOver o s t ∧ t.status = s.status ∧
        o = s.eng.out ++ (List.range (n - 1)).map fun k => BitVec.ofNat 8 (v / 256 ^ (3 - k))) ∧
    (2 ≤ n → n ≤ 4 → 2 ^ 32 ≤ v → ∃ t, exec .a85Term s = .next t ∧ aborted .decodeError 0x23 2 0 0 0 0 s t)

/-- RunLength runs copy, repeat, end, or abort when truncated (44_simple_codecs.md R298; 44_simple_codecs.md R299;
44_simple_codecs.md R300; 44_simple_codecs.md R301; 60_exceptions.md R421; 60_exceptions.md R426).

That the working buffer and the codec registers are empty after an abort is the model's choice, log 11, that OUT
keeps its bytes then, log 4, and that ORIG_LEN and J stay, log 34. That the codec registers are empty after a
stage is the model's choice, log 25. Where BUF_CAP is checked is the model's reading, log 18. -/
def Obligations.RunLengthBytesExpand : Prop :=
  (∀ (n : BitVec 7) (s : State) (run : Bytes), run = (s.eng.src.drop s.eng.bytePos).take (n.toNat + 1) →
      (run.length = n.toNat + 1 → overCap s.cfg (s.eng.out.length + (n.toNat + 1)) = false →
        ∃ t, exec (.rlLiteral n) s = .next t ∧ onlyCodec s t ∧ t.phase = s.phase ∧
          t.eng = { s.eng with out := s.eng.out ++ run, bytePos := s.eng.bytePos + (n.toNat + 1) }) ∧
      (run.length < n.toNat + 1 →
        ∃ t, exec (.rlLiteral n) s = .next t ∧
          aborted .decodeError 0x30 4 (n.toNat + 1) (s.eng.src.length - s.eng.bytePos) 0 0 s t)) ∧
    (∀ (n : BitVec 7) (s : State),
      (∀ b, s.eng.src[s.eng.bytePos]? = some b → overCap s.cfg (s.eng.out.length + (257 - (128 + n.toNat))) = false →
        ∃ t, exec (.rlRepeat n) s = .next t ∧ onlyCodec s t ∧ t.phase = s.phase ∧
          t.eng = { s.eng with
            out := s.eng.out ++ List.replicate (257 - (128 + n.toNat)) b, bytePos := s.eng.bytePos + 1 }) ∧
      (s.eng.src.length ≤ s.eng.bytePos →
        ∃ t, exec (.rlRepeat n) s = .next t ∧ aborted .decodeError 0x31 4 0 0 0 0 s t)) ∧
    (∀ s : State, withinLimits s s.eng.out.length →
      ∃ t, exec .rlEod s = .next t ∧ stageOver s.eng.out s t ∧ t.status = s.status) ∧
    (∀ s : State, bytesUsedUp .rl s → withinLimits s s.eng.out.length →
      ∃ t, step s = .next t ∧ stageOver s.eng.out s t ∧ t.status = s.status)

/-- Every byte sequence written as hexadecimal digits and a > decodes to itself (44_simple_codecs.md R281;
44_simple_codecs.md R282; 44_simple_codecs.md R283; 95_test_vectors.md S1).

The run in one pass is the reading of log 23, the model's. That the codec registers are empty after a stage is the
model's choice, log 25. -/
def Obligations.HexTextDecodesToItsBytes : Prop :=
  ∀ (b : Bytes) (text : List (Byte × Byte)) (s : State), running s → s.phase = .hex →
    text.length = b.length →
    (∀ k, k < b.length → ∃ hi lo, hexVal (text.getD k (0, 0)).1 = some hi ∧ hexVal (text.getD k (0, 0)).2 = some lo ∧
      (b.getD k 0).toNat = 16 * hi.toNat + lo.toNat) →
    s.eng = { Engine.empty with src := (text.flatMap fun p => [p.1, p.2]) ++ [0x3E] } →
    s.cfg.ws = Config.default.ws → s.cfg.bufCap = none → withinLimits s b.length →
    ∃ t, Host.Core.run Sys2Proof.core (2 * b.length + 2) s = .next t ∧ stageOver b s t ∧ t.status = s.status

/-- Every step of a byte codec or of LZW consumes input or ends the stage or the job (70_reset_and_hazards.md R474;
44_simple_codecs.md R301; 43_lzw.md R261). -/
def Obligations.CodecStepsConsumeInput : Prop :=
  ∀ s t : State, running s → step s = .next t →
    (s.phase = .hex ∨ s.phase = .a85 ∨ s.phase = .rl →
      t.phase = .orchestrate ∨ (t.phase = s.phase ∧ t.status.state = .busy ∧ t.eng.src = s.eng.src ∧
        s.eng.bytePos < t.eng.bytePos ∧ t.eng.bytePos ≤ s.eng.src.length)) ∧
    (s.phase = .lzw → 9 ≤ s.eng.lzw.codeBits →
      t.phase = .orchestrate ∨ (t.phase = .lzw ∧ t.status.state = .busy ∧ t.eng.src = s.eng.src ∧
        s.eng.bitPos + 9 ≤ t.eng.bitPos ∧ t.eng.bitPos ≤ 8 * s.eng.src.length))

/-- Make-up codes add up; a terminating code ends the run, which the row then uses (47_fax_engine.md R387;
47_fax_engine.md R388; 47_fax_engine.md R389; 47_fax_engine.md R390; 47_fax_engine.md R391; 47_fax_engine.md R395;
47_fax_engine.md R398). -/
def Obligations.FaxRunCodesAddUp : Prop :=
  (∀ p ∈ makeUpCodes, ∀ s : State, ∃ t, exec p.1 s = .next t ∧ onlyCodec s t ∧ t.phase = s.phase ∧
      t.eng = { s.eng with fax := { s.eng.fax with total := s.eng.fax.total + p.2 } }) ∧
    (∀ p ∈ terminatingCodes, ∀ (s : State) (run c : Nat), run = s.eng.fax.total + p.2 →
      c = s.j.desc.cColumns.toNat →
      (s.eng.fax.use = .row1d → s.eng.fax.pos + run < c →
        ∃ t, exec p.1 s = .next t ∧ onlyCodec s t ∧ t.phase = .faxRun ∧
          t.eng = { s.eng with
            fax := { s.eng.fax with
              pos := s.eng.fax.pos + run, t := s.eng.fax.t ++ [s.eng.fax.pos + run]
              colour := otherColour s.eng.fax.colour, total := 0 } }) ∧
      (s.eng.fax.use = .row1d → s.eng.fax.pos + run = c →
        ∃ t, exec p.1 s = .next t ∧ onlyCodec s t ∧ t.phase = .faxRowStart ∧
          t.eng = { s.eng with
            fax := { s.eng.fax with
              rowsDone := s.eng.fax.rowsDone ++ [s.eng.fax.t ++ [c]], ref := s.eng.fax.t ++ [c] } }) ∧
      (s.eng.fax.use = .horiz1 →
        ∃ t, exec p.1 s = .next t ∧ onlyCodec s t ∧ t.phase = .faxRun ∧
          t.eng = { s.eng with
            fax := { s.eng.fax with use := .horiz2 ((max s.eng.fax.a0 0).toNat + run), total := 0 } }) ∧
      (∀ a1, s.eng.fax.use = .horiz2 a1 → a1 + run < c →
        ∃ t, exec p.1 s = .next t ∧ onlyCodec s t ∧ t.phase = .faxMode ∧
          t.eng = { s.eng with
            fax := { s.eng.fax with
              t := s.eng.fax.t ++ [a1, a1 + run], a0 := ((a1 + run : Nat) : Int) } }) ∧
      (∀ a1, s.eng.fax.use = .horiz2 a1 → a1 + run = c →
        ∃ t, exec p.1 s = .next t ∧ onlyCodec s t ∧ t.phase = .faxRowStart ∧
          t.eng = { s.eng with
            fax := { s.eng.fax with
              t := s.eng.fax.t ++ [a1, c], a0 := (c : Int)
              rowsDone := s.eng.fax.rowsDone ++ [s.eng.fax.t ++ [a1, c]], ref := s.eng.fax.t ++ [a1, c] } }) ∧
      ((s.eng.fax.use = .row1d ∧ c < s.eng.fax.pos + run) ∨
          (∃ a1, s.eng.fax.use = .horiz2 a1 ∧ c < a1 + run) →
        exec p.1 s = .next (attemptEnd s.eng.fax.rowsDone s)))

/-- A fax row starts as its group says, and the two-dimensional modes move the position as T.6 says (47_fax_engine.md
R386; 47_fax_engine.md R392; 47_fax_engine.md R394; 47_fax_engine.md R395; 47_fax_engine.md R396; 47_fax_engine.md
R397; 47_fax_engine.md R399; 47_fax_engine.md R384; 47_fax_engine.md R385; 47_fax_engine.md R398).

The alignment of Group 3 rows with tag bits follows R385 and not R401: log 33. -/
def Obligations.TwoDimensionalModesMoveThePosition : Prop :=
  (∀ p ∈ verticalModes, ∀ (s : State) (a1 : Int) (c : Nat), c = s.j.desc.cColumns.toNat →
      a1 = (findB c s.eng.fax).1 + p.2 →
      (max s.eng.fax.a0 0 ≤ a1 → a1 < (c : Int) →
        ∃ t, exec p.1 s = .next t ∧ onlyCodec s t ∧ t.phase = .faxMode ∧
          t.eng = { s.eng with
            fax := { s.eng.fax with
              t := s.eng.fax.t ++ [a1.toNat], a0 := a1, colour := otherColour s.eng.fax.colour } }) ∧
      (max s.eng.fax.a0 0 ≤ a1 → a1 = (c : Int) →
        ∃ t, exec p.1 s = .next t ∧ onlyCodec s t ∧ t.phase = .faxRowStart ∧
          t.eng = { s.eng with
            fax := { s.eng.fax with
              t := s.eng.fax.t ++ [c], a0 := a1, colour := otherColour s.eng.fax.colour
              rowsDone := s.eng.fax.rowsDone ++ [s.eng.fax.t ++ [c]], ref := s.eng.fax.t ++ [c] } }) ∧
      (a1 < max s.eng.fax.a0 0 ∨ (c : Int) < a1 → exec p.1 s = .next (attemptEnd s.eng.fax.rowsDone s))) ∧
    (∀ (s : State) (b2 c : Nat), c = s.j.desc.cColumns.toNat → b2 = (findB c s.eng.fax).2 →
      (b2 < c → ∃ t, exec .faxPass s = .next t ∧ onlyCodec s t ∧ t.phase = .faxMode ∧
        t.eng = { s.eng with fax := { s.eng.fax with a0 := (b2 : Int) } }) ∧
      (c ≤ b2 → ∃ t, exec .faxPass s = .next t ∧ onlyCodec s t ∧ t.phase = .faxRowStart ∧
        t.eng = { s.eng with
          fax := { s.eng.fax with
            a0 := (b2 : Int), rowsDone := s.eng.fax.rowsDone ++ [s.eng.fax.t], ref := s.eng.fax.t } })) ∧
    (∀ s : State, ∃ t, exec .faxHoriz s = .next t ∧ onlyCodec s t ∧ t.phase = .faxRun ∧
      t.eng = { s.eng with fax := { s.eng.fax with use := .horiz1, total := 0 } }) ∧
    (∀ (s : State) (fill : Nat),
      (s.j.desc.cK.getLsbD 31 = false →
        ∃ t, exec (.faxEol fill) s = .next t ∧ onlyCodec s t ∧ t.phase = .faxEol ∧
          t.eng = { s.eng with fax := { s.eng.fax with eols := s.eng.fax.eols + 1 } }) ∧
      (s.j.desc.cK.getLsbD 31 = true → exec (.faxEol fill) s = .next (attemptEnd s.eng.fax.rowsDone s))) ∧
    (∀ (s : State) (pos : Nat), running s → s.phase = .faxRowStart →
      let group4 : Prop := s.j.desc.cK.getLsbD 31 = true
      let tagged : Prop := s.cfg.g3TwoD = true ∧ 0 < s.j.desc.cK.toInt
      let aligned : Prop :=
        s.j.desc.cFlags.getLsbD 3 = true ∧ (group4 ∨ ¬ (s.j.desc.cFlags.getLsbD 2 = true ∨ tagged))
      (s.j.desc.cFlags.getLsbD 0 = true → s.j.desc.cRows.toNat ≤ s.eng.fax.rowsDone.length →
        step s = .next (attemptEnd s.eng.fax.rowsDone s)) ∧
      (s.j.desc.cFlags.getLsbD 0 = false ∨ s.eng.fax.rowsDone.length < s.j.desc.cRows.toNat →
        (aligned → ∃ p, pos = 8 * p ∧ s.eng.bitPos ≤ 8 * p ∧ 8 * p < s.eng.bitPos + 8) →
        (¬ aligned → pos = s.eng.bitPos) →
        ∃ t, step s = .next t ∧ onlyCodec s t ∧ t.phase = .faxEol ∧
          t.eng = { s.eng with bitPos := pos, fax := { s.eng.fax with eols := 0 } })) ∧
    (∀ (s : State) (r : Reject), running s → s.phase = .faxEol →
      decode (.faxEol (s.j.desc.cK.getLsbD 31)) (restM s) = .reject r →
      let row1d (pos : Nat) (t : State) : Prop := onlyCodec s t ∧ t.phase = .faxRun ∧
        t.eng = { s.eng with
          bitPos := pos
          fax := { s.eng.fax with first := false, t := [], pos := 0, colour := .white, total := 0, use := .row1d } }
      let row2d (pos : Nat) (first : Bool) (t : State) : Prop := onlyCodec s t ∧ t.phase = .faxMode ∧
        t.eng = { s.eng with
          bitPos := pos, fax := { s.eng.fax with first := first, t := [], a0 := -1, colour := .white } }
      let exhausted : Prop := 8 * s.eng.src.length ≤ s.eng.bitPos
      let tagged : Prop := s.cfg.g3TwoD = true ∧ 0 < s.j.desc.cK.toInt
      let ends : Prop := exhausted ∨ 2 ≤ s.eng.fax.eols ∨
        (s.j.desc.cFlags.getLsbD 2 = true ∧ s.eng.fax.first = false ∧ s.eng.fax.eols = 0)
      (s.j.desc.cK.getLsbD 31 = true →
        (exhausted → step s = .next (attemptEnd s.eng.fax.rowsDone s)) ∧
        (¬ exhausted → ∃ t, step s = .next t ∧ row2d s.eng.bitPos s.eng.fax.first t)) ∧
      (s.j.desc.cK.getLsbD 31 = false →
        (ends → step s = .next (attemptEnd s.eng.fax.rowsDone s)) ∧
        (¬ ends → ¬ tagged → ∃ t, step s = .next t ∧ row1d s.eng.bitPos t) ∧
        (¬ ends → tagged →
          (∀ rest, restM s = true :: rest → ∃ t, step s = .next t ∧ row1d (s.eng.bitPos + 1) t) ∧
          (∀ rest, restM s = false :: rest → ∃ t, step s = .next t ∧ row2d (s.eng.bitPos + 1) false t))))

/-- b1 is the first change of the reference line right of A0 to the opposite colour, b2 the next change
(47_fax_engine.md R397). -/
def Obligations.FindBIsTheFirstOppositeChange : Prop :=
  ∀ (columns : Nat) (f : FaxRegs),
    let fits : Nat → Nat → Prop := fun i r => f.a0 < (r : Int) ∧ (i % 2 = 1 ↔ f.colour = .black)
    (∃ i r, f.ref[i]? = some r ∧ fits i r ∧ (∀ j q, j < i → f.ref[j]? = some q → ¬ fits j q) ∧
      findB columns f = (r, f.ref.getD (i + 1) columns)) ∨
    ((∀ j q, f.ref[j]? = some q → ¬ fits j q) ∧ findB columns f = (columns, columns))

/-- A fax attempt begins over its input; a stop delivers the rows done, or leads to the one retry, or to the white
bitmap (47_fax_engine.md R382; 47_fax_engine.md R393; 46_ccitt.md R352; 46_ccitt.md R355; 46_ccitt.md R356;
46_ccitt.md R357; 46_ccitt.md R358; 46_ccitt.md R361; 46_ccitt.md R353; 47_fax_engine.md R380; 47_fax_engine.md
R381).

OUT_LEN of a length of 2^LEN_BITS or more is the model's choice (log 16), and so is what an answer of a FAX_ENGINE
outside its contract counts as (log 24). Where BUF_CAP is checked is the model's reading, log 18. -/
def Obligations.FaxStopEndsTheAttempt : Prop :=
  (∀ (i : Instr) (s : State), ((∃ x, i = .faxModeIllegal x) ∨ ∃ x, i = .faxRunIllegal x) →
      (∀ bm, s.eng.fax.rowsDone ≠ [] →
        bm = rowsToBitmap s.eng.fax.rowsDone s.j.desc.cColumns.toNat
          (if s.j.desc.cFlags.getLsbD 0 then s.j.desc.cRows.toNat else s.eng.fax.rowsDone.length) →
        overCap s.cfg bm.length = false →
        ∃ t, exec i s = .next t ∧ t.status = { s.status with state := .done } ∧ t.outLen = lenWord s.cfg bm.length ∧
          (Config.legal s.cfg = true → bm.length < 2 ^ s.cfg.lenBits → t.outLen.toNat = bm.length) ∧
          ∀ k b, bm[k]? = some b → readByte .out t.out k = some (if s.j.desc.cFlags.getLsbD 1 then ~~~b else b)) ∧
      (s.eng.fax.rowsDone = [] → s.eng.fax.attempt = 1 →
        ∃ t, exec i s = .next t ∧ hostKept s t ∧ bytesKept s t ∧ jobKept s t ∧ t.phase = .faxBegin ∧
          t.status = { s.status with ccittRetry := true } ∧ t.eng.fax = FaxRegs.init 2) ∧
      (∀ rows len, s.eng.fax.rowsDone = [] → s.eng.fax.attempt = 2 →
        rows = (if s.j.desc.cFlags.getLsbD 0 then s.j.desc.cRows.toNat else 0) →
        len = rows * ((s.j.desc.cColumns.toNat + 7) / 8) → overCap s.cfg len = false →
        ∃ t, exec i s = .next t ∧ t.status = { s.status with state := .done, ccittWhite := true } ∧
          t.outLen = lenWord s.cfg len ∧
          (Config.legal s.cfg = true → len < 2 ^ s.cfg.lenBits → t.outLen.toNat = len) ∧
          ∀ k, k < len → readByte .out t.out k = some (if s.j.desc.cFlags.getLsbD 1 then 0xFF else 0x00))) ∧
    (∀ s : State, running s → s.phase = .faxBegin → s.j.desc.cColumns = 0 →
      ∃ t, step s = .next t ∧ t.status = { s.status with state := .done, ccittWhite := true } ∧ t.outLen = 0) ∧
    (∀ (s : State) (input : Bytes), running s → s.phase = .faxBegin → s.j.desc.cColumns ≠ 0 →
      (s.eng.fax.attempt = 1 ∧ input = s.j.input) ∨
        (s.eng.fax.attempt = 2 ∧ input.head? ≠ some 0 ∧
          ∃ zeros, s.j.input = zeros ++ input ∧ ∀ b ∈ zeros, b = 0) →
      (s.cfg.faxEngineReplaced = false →
        ∃ t, step s = .next t ∧ onlyCodec s t ∧ t.phase = .faxRowStart ∧
          t.eng = { Engine.empty with src := input, fax := FaxRegs.init s.eng.fax.attempt }) ∧
      (∀ rows, s.cfg.faxEngineReplaced = true → rows = Config.faxEngine input (faxParams s.j.desc) →
        (let kept : Prop := (∀ r ∈ rows, rowWf s.j.desc.cColumns.toNat r) ∧
          (s.j.desc.cFlags.getLsbD 0 = true → rows.length ≤ s.j.desc.cRows.toNat)
        (kept → step s = .next (attemptEnd rows s)) ∧ (¬ kept → step s = .next (attemptEnd [] s)))))

/-- A bit of the bitmap is 1 exactly where its pixel lies in a black run (46_ccitt.md R359). -/
def Obligations.BitmapPixelsAreTheBlackRuns : Prop :=
  ∀ (trs : List (List Nat)) (columns nrows : Nat),
    let stride := (columns + 7) / 8
    (rowsToBitmap trs columns nrows).length = stride * nrows ∧
      ∀ r x, r < nrows → x < 8 * stride →
        ∃ b : Byte, (rowsToBitmap trs columns nrows)[r * stride + x / 8]? = some b ∧
          (b.getLsbD (7 - x % 8) = true ↔
            x < columns ∧ ∃ k s, (trs.getD r [])[2 * k]? = some s ∧ min s columns ≤ x ∧
              x < min ((trs.getD r []).getD (2 * k + 1) columns) columns)

/-- BLACK_IS_1 changes nothing of a CCITT_DECODE job but to invert every byte of the result (46_ccitt.md R363;
46_ccitt.md R361). -/
def Obligations.BlackIs1InvertsTheResult : Prop :=
  ∀ s t : State, running s → s.j.op = .ccittDecode → inFax s.phase = true → s.j.desc.cFlags.getLsbD 1 = false →
    step s = .next t →
    ∃ t', step (withBlackIs1 s) = .next t' ∧
      ((t.status.state = .busy ∧ t' = withBlackIs1 t) ∨
        (t.status.state ≠ .busy ∧ t'.status = t.status ∧ t'.outLen = t.outLen ∧
          ∀ a, a < t.outLen.toNat →
            ∃ b, readByte .out t.out a = some b ∧ readByte .out t'.out a = some (~~~b)))

/-- A CCITT_DECODE job takes no exception when BUF_CAP is infinite (46_ccitt.md R350; 60_exceptions.md R423;
60_exceptions.md R424).

That J stays where a step ends the job in DONE is the model's choice (log 34). -/
def Obligations.CcittDecodeNeverRaises : Prop :=
  ∀ s t : State, running s → s.j.op = .ccittDecode → inFax s.phase = true → s.cfg.bufCap = none → step s = .next t →
    t.status.eclass = s.status.eclass ∧ t.status.ecode = s.status.ecode ∧ t.status.estage = s.status.estage ∧
      t.status.efilt = s.status.efilt ∧ t.j = s.j ∧
      ((t.status.state = .busy ∧ inFax t.phase = true) ∨ t.status.state = .done)

/-- CCITT_GRAY writes one byte for each bit of the input (46_ccitt.md R360). -/
def Obligations.GrayExpandsEveryBit : Prop :=
  ∀ s : State, running s → s.phase = .gray → overCap s.cfg (8 * s.j.input.length) = false →
    Config.legal s.cfg = true → 8 * s.j.input.length < 2 ^ s.cfg.lenBits →
    ∃ t, step s = .next t ∧ t.status = { s.status with state := .done } ∧ t.outLen.toNat = 8 * s.j.input.length ∧
      ∀ k i v, s.j.input[k]? = some v → i < 8 →
        readByte .out t.out (8 * k + i) = some (if v.getLsbD (7 - i) then 0x00 else 0xFF)
end

