-- ==== Sys2Proof/Laws/Bits.lean ====
section
/-! SUPPORT. The laws of the bit helpers: a field read from the bits of a number is that number. -/

namespace Sys2Proof

@[simp] theorem length_bitsL (n v : Nat) : (bitsL n v).length = n := by simp [bitsL]

@[simp] theorem length_bitsM (n v : Nat) : (bitsM n v).length = n := by simp [bitsM]

theorem bitsL_zero (v : Nat) : bitsL 0 v = [] := rfl

theorem bitsL_succ (n v : Nat) : bitsL (n + 1) v = v.testBit 0 :: bitsL n (v / 2) := by
  simp [bitsL, List.range_succ_eq_map, List.map_map, Function.comp_def, Nat.testBit_succ]

theorem bitsM_eq_reverse (n v : Nat) : bitsM n v = (bitsL n v).reverse := by
  apply List.ext_getElem
  · simp
  · intro i h1 h2
    simp [bitsM, bitsL]

theorem natL_bitsL (n v : Nat) : natL (bitsL n v) = v % 2 ^ n := by
  induction n generalizing v with
  | zero => simp [bitsL_zero, natL, Nat.mod_one]
  | succ n ih =>
    have h : v % 2 ^ (n + 1) = v % 2 + 2 * (v / 2 % 2 ^ n) := by
      rw [Nat.pow_succ', Nat.mod_mul]
    rw [bitsL_succ, natL, ih, h, Nat.testBit_zero]
    rcases Nat.mod_two_eq_zero_or_one v with h0 | h0 <;> simp [h0]

theorem natM_append (xs : List Bool) (b : Bool) : natM (xs ++ [b]) = 2 * natM xs + b.toNat := by
  simp [natM]

theorem natM_reverse (xs : List Bool) : natM xs.reverse = natL xs := by
  induction xs with
  | nil => rfl
  | cons b xs ih => rw [List.reverse_cons, natM_append, ih, natL]; omega

theorem natM_bitsM (n v : Nat) : natM (bitsM n v) = v % 2 ^ n := by
  rw [bitsM_eq_reverse, natM_reverse, natL_bitsL]

theorem natL_lt (bs : List Bool) : natL bs < 2 ^ bs.length := by
  induction bs with
  | nil => simp [natL]
  | cons b bs ih =>
    have : b.toNat ≤ 1 := by cases b <;> simp
    simp only [natL, List.length_cons, Nat.pow_succ']
    omega

theorem natM_lt (bs : List Bool) : natM bs < 2 ^ bs.length := by
  have h := natL_lt bs.reverse
  rw [← natM_reverse, List.reverse_reverse, List.length_reverse] at h
  exact h

/-- The bits of the number whose bits are `bs` are `bs` (LSB first). -/
theorem bitsL_natL (bs : List Bool) : bitsL bs.length (natL bs) = bs := by
  induction bs with
  | nil => rfl
  | cons b bs ih =>
    have h1 : (b.toNat + 2 * natL bs) / 2 = natL bs := by
      cases b
      · simp
      · simp only [Bool.toNat_true]; omega
    have h2 : (b.toNat + 2 * natL bs).testBit 0 = b := by
      rw [Nat.testBit_zero]; cases b <;> simp
    rw [List.length_cons, bitsL_succ, natL, h1, h2, ih]

/-- The bits of the number whose bits are `bs` are `bs` (MSB first). -/
theorem bitsM_natM (bs : List Bool) : bitsM bs.length (natM bs) = bs := by
  have h : natM bs = natL bs.reverse := by rw [← natM_reverse, List.reverse_reverse]
  rw [bitsM_eq_reverse, h, show bs.length = bs.reverse.length by simp, bitsL_natL, List.reverse_reverse]

theorem takeBits_append (n : Nat) (xs ys : List Bool) (h : xs.length = n) :
    takeBits n (xs ++ ys) = some xs := by
  have ht : (xs ++ ys).take n = xs := by rw [← h]; simp
  simp [takeBits, ht, h]

/-- What a successful read of bits gives: the front of the list, which is long enough. -/
theorem takeBits_some (n : Nat) (bs xs : List Bool) (h : takeBits n bs = some xs) :
    xs = bs.take n ∧ xs.length = n ∧ n ≤ bs.length := by
  unfold takeBits at h
  split at h
  · cases h
  · rename_i hn
    cases h
    rw [List.length_take] at hn ⊢
    exact ⟨rfl, by omega, by omega⟩

/-- A read of bits fails exactly where fewer remain. -/
theorem takeBits_none_iff (n : Nat) (bs : List Bool) : takeBits n bs = none ↔ bs.length < n := by
  unfold takeBits
  split <;> rename_i hn <;> rw [List.length_take] at hn <;> simp <;> omega

theorem fieldL_bitsL (n v : Nat) (rest : List Bool) : fieldL n (bitsL n v ++ rest) = some (v % 2 ^ n) := by
  simp [fieldL, takeBits_append, natL_bitsL]

theorem fieldM_bitsM (n v : Nat) (rest : List Bool) : fieldM n (bitsM n v ++ rest) = some (v % 2 ^ n) := by
  simp [fieldM, takeBits_append, natM_bitsM]

/-- What a successful LSB-first field read gives. -/
theorem fieldL_some (n v : Nat) (bs : List Bool) (h : fieldL n bs = some v) : n ≤ bs.length ∧ v < 2 ^ n := by
  simp only [fieldL, Option.map_eq_some_iff] at h
  obtain ⟨xs, hx, rfl⟩ := h
  obtain ⟨-, hl, hn⟩ := takeBits_some n bs xs hx
  exact ⟨hn, hl ▸ natL_lt xs⟩

/-- What a successful MSB-first field read gives. -/
theorem fieldM_some (n v : Nat) (bs : List Bool) (h : fieldM n bs = some v) : n ≤ bs.length ∧ v < 2 ^ n := by
  simp only [fieldM, Option.map_eq_some_iff] at h
  obtain ⟨xs, hx, rfl⟩ := h
  obtain ⟨-, hl, hn⟩ := takeBits_some n bs xs hx
  exact ⟨hn, hl ▸ natM_lt xs⟩

theorem drop_bitsL (n v : Nat) (rest : List Bool) : (bitsL n v ++ rest).drop n = rest := by
  rw [List.drop_append_of_le_length (by simp), List.drop_of_length_le (by simp)]
  rfl

/-- Bytes read from the bits of a byte sequence are that sequence. -/
theorem bytesL_streamL (b : Bytes) (rest : List Bool) : bytesL b.length (streamL b ++ rest) = some b := by
  induction b with
  | nil => rfl
  | cons c b ih =>
    have hs : streamL (c :: b) ++ rest = bitsL 8 c.toNat ++ (streamL b ++ rest) := by simp [streamL]
    have hc : c.toNat % 2 ^ 8 = c.toNat := Nat.mod_eq_of_lt c.isLt
    rw [List.length_cons, hs, bytesL, fieldL_bitsL, hc, drop_bitsL, ih]
    simp

/-- A code that `look` knows, and of which it knows no proper initial part, is read back (R202, R381). -/
theorem readCode_hit {α : Type} (look : Nat → Nat → Option α) (x : α) :
    ∀ (code : List Bool) (fuel l c : Nat) (rest : List Bool), code ≠ [] → code.length ≤ fuel →
      look (l + code.length) (code.foldl (fun v b => 2 * v + b.toNat) c) = some x →
      (∀ k, 0 < k → k < code.length → look (l + k) ((code.take k).foldl (fun v b => 2 * v + b.toNat) c) = none) →
      readCode look fuel l c (code ++ rest) = .hit x (l + code.length) := by
  intro code
  induction code with
  | nil => intro _ _ _ _ h; exact absurd rfl h
  | cons b code ih =>
    intro fuel l c rest _ hfuel hit hmiss
    cases fuel with
    | zero => simp at hfuel
    | succ fuel =>
      cases code with
      | nil =>
        have hit' : look (l + 1) (2 * c + b.toNat) = some x := by simpa using hit
        simp [readCode, hit']
      | cons d code =>
        have h1 : look (l + 1) (2 * c + b.toNat) = none := by simpa using hmiss 1 (by omega) (by simp)
        have := ih fuel (l + 1) (2 * c + b.toNat) rest (by simp) (by simpa using hfuel)
          (by simpa [Nat.add_assoc, Nat.add_comm, Nat.add_left_comm] using hit)
          (fun k hk hk' => by
            have := hmiss (k + 1) (by omega) (by simpa using hk')
            simpa [Nat.add_assoc, Nat.add_comm, Nat.add_left_comm] using this)
        simp only [List.cons_append, readCode, h1]
        simp only [List.cons_append] at this
        rw [this]
        simp [Nat.add_comm, Nat.add_left_comm]

end Sys2Proof
end

