-- ==== Sys2Proof/Laws/Memory.lean ====
section
/-! SUPPORT. The laws of the memory operations: what a read after a write gives, and that every operation keeps the
canonical form. -/

namespace Sys2Proof.Machine

open Sys2Proof

/-- The canonical form, entry by entry. -/
theorem memory_wf_iff (sp : Space) (m : Memory) :
    Memory.wf sp m = true ↔ m.Pairwise (fun c d => c.1 < d.1) ∧ ∀ c ∈ m, unlisted sp ≠ some c.2 := by
  induction m with
  | nil => simp [Memory.wf]
  | cons c m ih =>
    cases m with
    | nil => simp [Memory.wf]
    | cons d m =>
      have h : Memory.wf sp (c :: d :: m) = true ↔
          unlisted sp ≠ some c.2 ∧ c.1 < d.1 ∧ Memory.wf sp (d :: m) = true := by
        simp [Memory.wf, and_assoc]
      rw [h, ih]
      constructor
      · rintro ⟨hc, hlt, hp, hall⟩
        refine ⟨List.pairwise_cons.2 ⟨?_, hp⟩, ?_⟩
        · intro e he
          rcases List.mem_cons.1 he with rfl | he
          · exact hlt
          · exact lt_trans hlt ((List.pairwise_cons.1 hp).1 e he)
        · intro e he
          rcases List.mem_cons.1 he with rfl | he
          · exact hc
          · exact hall e he
      · rintro ⟨hp, hall⟩
        have hp' := List.pairwise_cons.1 hp
        exact ⟨hall c (by simp), hp'.1 d (by simp), hp'.2, fun e he => hall e (by simp [he])⟩

/-- The entry of an address below all entries. -/
theorem memGet_eq_none_of_lt (m : Memory) (a : Nat) (h : ∀ c ∈ m, a < c.1) : memGet m a = none := by
  induction m with
  | nil => rfl
  | cons c m ih =>
    have hc := h c (by simp)
    simp only [memGet]
    rw [if_neg (by omega)]
    exact ih fun d hd => h d (by simp [hd])

/-- What an insertion leaves at each address. -/
theorem memGet_memInsert (m : Memory) (a a' : Nat) (b : Byte) :
    memGet (memInsert a b m) a' = if a' = a then some b else memGet m a' := by
  induction m with
  | nil => by_cases h : a = a' <;> simp [memInsert, memGet, h, eq_comm]
  | cons c m ih =>
    obtain ⟨k, x⟩ := c
    have ha : (a = a') = (a' = a) := propext eq_comm
    simp only [memInsert]
    by_cases hlt : a < k
    · simp only [if_pos hlt, memGet, ha]
    · by_cases heq : a = k
      · subst heq
        simp only [if_neg hlt, if_true, memGet, ha]
        by_cases h : a' = a <;> simp [h]
      · simp only [if_neg hlt, if_neg heq, memGet, ih]
        by_cases hk : k = a'
        · subst hk; simp [Ne.symm heq]
        · simp [hk]

/-- An entry of an insertion is the new one or an old one. -/
theorem mem_memInsert (m : Memory) (a : Nat) (b : Byte) (c : Host.Cell) (h : c ∈ memInsert a b m) :
    c = (a, b) ∨ c ∈ m := by
  induction m with
  | nil => simpa [memInsert] using h
  | cons d m ih =>
    simp only [memInsert] at h
    split at h
    · simpa using h
    · split at h
      · rcases List.mem_cons.1 h with h | h
        · exact .inl h
        · exact .inr (by simp [h])
      · rcases List.mem_cons.1 h with h | h
        · exact .inr (by simp [h])
        · rcases ih h with h | h
          · exact .inl h
          · exact .inr (by simp [h])

/-- An insertion keeps the canonical form. -/
theorem memInsert_wf (sp : Space) (m : Memory) (a : Nat) (b : Byte) (hb : unlisted sp ≠ some b)
    (h : Memory.wf sp m = true) : Memory.wf sp (memInsert a b m) = true := by
  rw [memory_wf_iff] at h ⊢
  obtain ⟨hp, hall⟩ := h
  refine ⟨?_, fun c hc => ?_⟩
  · induction m with
    | nil => simp [memInsert]
    | cons d m ih =>
      obtain ⟨hd, hm⟩ := List.pairwise_cons.1 hp
      simp only [memInsert]
      split
      · refine List.pairwise_cons.2 ⟨fun e he => ?_, hp⟩
        rcases List.mem_cons.1 he with rfl | he
        · assumption
        · exact lt_trans (by assumption) (hd e he)
      · split
        · rename_i heq
          exact List.pairwise_cons.2 ⟨fun e he => by simpa [heq] using hd e he, hm⟩
        · refine List.pairwise_cons.2 ⟨fun e he => ?_, ih hm fun c hc => hall c (by simp [hc])⟩
          rcases mem_memInsert m a b e he with rfl | he
          · show d.1 < a
            omega
          · exact hd e he
  · rcases mem_memInsert m a b c hc with rfl | hc
    · exact hb
    · exact hall c hc

/-- Taking an entry out keeps the others. -/
theorem memErase_sublist (m : Memory) (a : Nat) : (memErase a m).Sublist m := by
  induction m with
  | nil => exact .slnil
  | cons c m ih =>
    simp only [memErase]
    split
    · exact .cons _ (List.Sublist.refl _)
    · exact .cons_cons _ ih

/-- Taking an entry out keeps the canonical form. -/
theorem memErase_wf (sp : Space) (m : Memory) (a : Nat) (h : Memory.wf sp m = true) :
    Memory.wf sp (memErase a m) = true := by
  rw [memory_wf_iff] at h ⊢
  exact ⟨h.1.sublist (memErase_sublist m a), fun c hc => h.2 c ((memErase_sublist m a).subset hc)⟩

/-- What taking an entry out of a canonical memory leaves at each address. -/
theorem memGet_memErase (m : Memory) (a a' : Nat) (h : m.Pairwise fun c d => c.1 < d.1) :
    memGet (memErase a m) a' = if a' = a then none else memGet m a' := by
  induction m with
  | nil => simp [memErase, memGet]
  | cons c m ih =>
    obtain ⟨hc, hm⟩ := List.pairwise_cons.1 h
    simp only [memErase]
    split
    · rename_i heq
      simp only [memGet]
      split
      · rename_i h'
        rw [h']
        exact memGet_eq_none_of_lt m a fun d hd => heq ▸ hc d hd
      · rw [if_neg (by omega)]
    · simp only [memGet, ih hm]
      split <;> split <;> simp_all

/-- A write keeps the canonical form. -/
theorem writeByte_wf (sp : Space) (m : Memory) (a : Nat) (b : Byte) (h : Memory.wf sp m = true) :
    Memory.wf sp (writeByte sp m a b) = true := by
  simp only [writeByte]
  split
  · exact memErase_wf sp m a h
  · exact memInsert_wf sp m a b (by assumption) h

/-- A read after a write of one byte (R40). -/
theorem readByte_writeByte (sp : Space) (m : Memory) (a a' : Nat) (b : Byte) (h : Memory.wf sp m = true) :
    readByte sp (writeByte sp m a b) a' = if a' = a then some b else readByte sp m a' := by
  have hp := ((memory_wf_iff sp m).1 h).1
  simp only [readByte, writeByte]
  split
  · rename_i hu
    rw [memGet_memErase m a a' hp]
    split <;> simp_all
  · rw [memGet_memInsert]
    split <;> simp

/-- An entry of `cellsFrom`. -/
theorem mem_cellsFrom (a : Nat) (bs : Bytes) (c : Host.Cell) (h : c ∈ cellsFrom a bs) :
    a ≤ c.1 ∧ c.1 < a + bs.length := by
  have := List.of_mem_zip h
  have := List.mem_range'_1.1 this.1
  omega

/-- The addresses of `cellsFrom` rise. -/
theorem cellsFrom_pairwise (a : Nat) (bs : Bytes) : (cellsFrom a bs).Pairwise fun c d => c.1 < d.1 := by
  induction bs generalizing a with
  | nil => simp [cellsFrom]
  | cons b bs ih =>
    have h : cellsFrom a (b :: bs) = (a, b) :: cellsFrom (a + 1) bs := by
      simp [cellsFrom, List.range'_succ]
    rw [h]
    exact List.pairwise_cons.2 ⟨fun c hc => by have := mem_cellsFrom _ _ _ hc; show a < c.1; omega, ih _⟩

/-- A write of a byte sequence keeps the canonical form. -/
theorem writeBytes_wf (sp : Space) (m : Memory) (a : Nat) (bs : Bytes) (h : Memory.wf sp m = true) :
    Memory.wf sp (writeBytes sp m a bs) = true := by
  rw [memory_wf_iff] at h ⊢
  obtain ⟨hp, hall⟩ := h
  constructor
  · refine List.pairwise_append.2 ⟨List.pairwise_append.2 ⟨hp.filter _, (cellsFrom_pairwise a bs).filter _, ?_⟩,
      hp.filter _, ?_⟩
    · intro c hc d hd
      have h1 : c.1 < a := by simpa using (List.mem_filter.1 hc).2
      have h2 := mem_cellsFrom _ _ _ (List.mem_filter.1 hd).1
      omega
    · intro c hc d hd
      have h2 : a + bs.length ≤ d.1 := by simpa using (List.mem_filter.1 hd).2
      rcases List.mem_append.1 hc with hc | hc
      · have h1 : c.1 < a := by simpa using (List.mem_filter.1 hc).2
        omega
      · have h1 := mem_cellsFrom _ _ _ (List.mem_filter.1 hc).1
        omega
  · intro c hc
    rcases List.mem_append.1 hc with hc | hc
    · rcases List.mem_append.1 hc with hc | hc
      · exact hall c (List.mem_filter.1 hc).1
      · simpa using (List.mem_filter.1 hc).2
    · exact hall c (List.mem_filter.1 hc).1

/-- The entry of an address in a concatenation. -/
theorem memGet_append (m m' : Memory) (a : Nat) : memGet (m ++ m') a = (memGet m a).or (memGet m' a) := by
  induction m with
  | nil => rfl
  | cons c m ih => simp only [List.cons_append, memGet, ih]; split <;> simp

/-- A filter on addresses keeps the entries it admits. -/
theorem memGet_filter_address (m : Memory) (p : Nat → Bool) (a : Nat) :
    memGet (m.filter fun c => p c.1) a = if p a then memGet m a else none := by
  induction m with
  | nil => simp [memGet]
  | cons c m ih =>
    obtain ⟨k, x⟩ := c
    rw [List.filter_cons]
    by_cases hk : k = a
    · subst hk
      by_cases hp : p k = true <;> simp [memGet, hp, ih]
    · by_cases hp : p k = true <;> simp [memGet, hp, hk, ih]

/-- The entry of an address in the cells of a written sequence. -/
theorem memGet_cells (sp : Space) (a : Nat) (bs : Bytes) (a' : Nat) :
    memGet ((cellsFrom a bs).filter fun c => decide (unlisted sp ≠ some c.2)) a' =
      if a' < a then none else (bs[a' - a]?).filter fun b => decide (unlisted sp ≠ some b) := by
  induction bs generalizing a with
  | nil => simp [cellsFrom, memGet]
  | cons b bs ih =>
    have h : cellsFrom a (b :: bs) = (a, b) :: cellsFrom (a + 1) bs := by
      simp [cellsFrom, List.range'_succ]
    have ih' := ih (a + 1)
    rw [h, List.filter_cons]
    by_cases hlt : a' < a
    · rw [if_pos (by omega)] at ih'
      have hne : a ≠ a' := by omega
      by_cases hb : unlisted sp = some b <;> simpa [memGet, hb, hlt, hne] using ih'
    · rcases Nat.eq_or_lt_of_le (Nat.not_lt.1 hlt) with rfl | hgt
      · rw [if_pos (by omega)] at ih'
        by_cases hb : unlisted sp = some b
        · simpa [memGet, hb, Option.filter] using ih'
        · simp [memGet, hb, Option.filter]
      · rw [if_neg (by omega)] at ih'
        have hne : a ≠ a' := by omega
        have e : a' - a = (a' - (a + 1)) + 1 := by omega
        by_cases hb : unlisted sp = some b <;> simpa [memGet, hb, hlt, hne, e] using ih'

/-- A read after a write of a byte sequence (R141). -/
theorem readByte_writeBytes (sp : Space) (m : Memory) (a a' : Nat) (bs : Bytes) :
    readByte sp (writeBytes sp m a bs) a' =
      if a ≤ a' ∧ a' < a + bs.length then bs[a' - a]? else readByte sp m a' := by
  have h1 := memGet_filter_address m (fun k => decide (k < a)) a'
  have h2 := memGet_filter_address m (fun k => decide (a + bs.length ≤ k)) a'
  have h3 := memGet_cells sp a bs a'
  simp only [readByte, writeBytes, memGet_append, h1, h2, h3]
  by_cases hlt : a' < a
  · rw [if_pos (by simpa using hlt), if_pos hlt, if_neg (by simp; omega), if_neg (by omega)]
    simp
  · rw [if_neg (by simpa using hlt), if_neg hlt]
    by_cases hin : a' < a + bs.length
    · rw [if_neg (by simp; omega), if_pos (by omega)]
      have hlen : a' - a < bs.length := by omega
      rw [List.getElem?_eq_getElem hlen]
      by_cases hu : unlisted sp = some bs[a' - a]
      · simp [Option.filter, hu]
      · simp [Option.filter, hu]
    · rw [if_pos (by simp; omega), if_neg (by omega)]
      rw [List.getElem?_eq_none (by omega)]
      simp

/-- The memory of the reset state is canonical. -/
theorem reset_memory_wf :
    Memory.wf .flt State.reset.flt = true ∧ Memory.wf .inp State.reset.inp = true ∧
      Memory.wf .out State.reset.out = true := ⟨rfl, rfl, rfl⟩

end Sys2Proof.Machine
end

