-- ==== Sys2Proof/Laws/Ops.lean ====
section
/-! SUPPORT. For each shared operation, once, everything it can do: under which condition it is which simpler operation. -/

namespace Sys2Proof.Machine

open Sys2Proof

/-- `emit` ends the job at the capacity, or appends and goes on. -/
theorem emit_cases (unit : Nat) (bs : Bytes) (s : State) (k : State → State) :
    (overCap s.cfg (s.eng.out.length + bs.length) = true ∧ emit unit bs s k = raiseCap unit s) ∨
      (overCap s.cfg (s.eng.out.length + bs.length) = false ∧
        emit unit bs s k = k { s with eng := { s.eng with out := s.eng.out ++ bs } }) := by
  unfold emit
  cases h : overCap s.cfg (s.eng.out.length + bs.length) <;> simp

/-- `finishStage` takes the ratio exception, or the size exception, or goes to the next stage. -/
theorem finishStage_cases (unit : Nat) (o : Bytes) (s : State) :
    (ratioExceeded s.cfg.ratioCmp o.length s.origLen (effLimits s.j).1 = true ∧
        finishStage unit o s = raise (.bombRatio o.length s.origLen (effLimits s.j).1) unit s) ∨
      (ratioExceeded s.cfg.ratioCmp o.length s.origLen (effLimits s.j).1 = false ∧
        sizeExceeded o.length (effLimits s.j).2 = true ∧
        finishStage unit o s = raise (.bombSize o.length s.origLen (effLimits s.j).2) unit s) ∨
      (ratioExceeded s.cfg.ratioCmp o.length s.origLen (effLimits s.j).1 = false ∧
        sizeExceeded o.length (effLimits s.j).2 = false ∧ finishStage unit o s = nextStage o s) := by
  unfold finishStage
  cases h : ratioExceeded s.cfg.ratioCmp o.length s.origLen (effLimits s.j).1 <;>
    cases h' : sizeExceeded o.length (effLimits s.j).2 <;> simp

/-- `deliver` ends the job at the capacity, or ends the stage. -/
theorem deliver_cases (unit : Nat) (o : Bytes) (s : State) :
    (overCap s.cfg o.length = true ∧ deliver unit o s = raiseCap unit s) ∨
      (overCap s.cfg o.length = false ∧ deliver unit o s = finishStage unit o s) := by
  unfold deliver
  cases h : overCap s.cfg o.length <;> simp

/-- `acknowledge` changes the state only of a job that is over, and there only STATE. -/
theorem acknowledge_cases (s : State) :
    ((s.status.state = .done ∨ s.status.state = .error) ∧
        acknowledge s = { s with status := { s.status with state := .idle } }) ∨
      (s.status.state ≠ .done ∧ s.status.state ≠ .error ∧ acknowledge s = s) := by
  unfold acknowledge
  cases h : s.status.state <;> simp

/-- `startJob` is ignored while BUSY, ends the job at the capacity, or starts it. -/
theorem startJob_cases (op : Op) (s : State) :
    (s.status.state = .busy ∧ startJob op s = s) ∨
      (s.status.state ≠ .busy ∧ ∃ t : State,
        t = { s with
          draws := s.draws + 1, j := latch op s, status := { Status.zero with state := .busy }, outLen := 0, einfo0 := 0,
          einfo1 := 0, einfo2 := 0, einfo3 := 0, stage := 0, cur := latchInput s, origLen := s.inLen.toNat,
          phase := firstPhase op, eng := Engine.empty } ∧
        ((overCap s.cfg s.inLen.toNat = true ∧ startJob op s = raiseCap 15 t) ∨
          (overCap s.cfg s.inLen.toNat = false ∧ startJob op s = t))) := by
  unfold startJob
  by_cases h : s.status.state = .busy
  · exact .inl ⟨h, by simp [h]⟩
  · refine .inr ⟨h, _, rfl, ?_⟩
    cases h' : overCap s.cfg s.inLen.toNat <;> simp [h]

/-- `scanNext` fails the ladder after the last offset, or begins the run at the next one. -/
theorem scanNext_cases (s : State) :
    (20 < nextOffset s.eng.ladder.off ∧ scanNext s = allFailed s) ∨
      (nextOffset s.eng.ladder.off ≤ 20 ∧
        scanNext s = beginRun false s.cur (nextOffset s.eng.ladder.off)
          { s with eng := { s.eng with ladder := { s.eng.ladder with off := nextOffset s.eng.ladder.off } } }) := by
  unfold scanNext
  by_cases h : 20 < nextOffset s.eng.ladder.off
  · exact .inl ⟨h, by simp [h]⟩
  · exact .inr ⟨by omega, by simp [h]⟩

/-- `runEnd` accepts the output of the run, or goes on with the scan or with the next strategy. -/
theorem runEnd_cases (st : IStatus) (s : State) :
    (∃ n, runEnd st s = finishStage 0 s.eng.out (logFlate n (decide (st ≠ .ok)) s)) ∨
      (s.eng.ladder.step = 7 ∧ hasTextOp s.eng.out = false ∧ runEnd st s = scanNext s) ∨
      (s.eng.ladder.step ≠ 7 ∧ s.eng.out = [] ∧ runEnd st s = failStrategy (ladderError st) s) := by
  unfold runEnd
  by_cases h7 : s.eng.ladder.step = 7
  · cases h : hasTextOp s.eng.out
    · exact .inr (.inl ⟨h7, rfl, by simp [h7]⟩)
    · exact .inl ⟨7, by simp [h7]⟩
  · by_cases h : s.eng.out ≠ [] ∨ (st = .ok ∧ s.cfg.acceptCleanEmpty = true)
    · exact .inl ⟨s.eng.ladder.step, by rw [if_neg h7, if_pos h]⟩
    · exact .inr (.inr ⟨h7, by simpa using fun h' => h (.inl h'), by rw [if_neg h7, if_neg h]⟩)

/-- `alternative` delivers a non-empty answer of its function, or fails the strategy. -/
theorem alternative_cases (n : Nat) (present : Bool) (f : Bytes → Option Bytes) (s : State) :
    (∃ o, o ≠ [] ∧ present = true ∧ f s.cur = some o ∧
        ((overCap s.cfg o.length = true ∧ alternative n present f s = raiseCap 0 s) ∨
          (overCap s.cfg o.length = false ∧ alternative n present f s = finishStage 0 o (logFlate n false s)))) ∨
      alternative n present f s = failStrategy .empty s := by
  unfold alternative
  cases present
  · exact .inr rfl
  · rw [if_pos rfl]
    cases h : f s.cur with
    | none => exact .inr rfl
    | some o =>
      cases o with
      | nil => exact .inr rfl
      | cons b o =>
        refine .inl ⟨b :: o, by simp, rfl, rfl, ?_⟩
        cases h' : overCap s.cfg (b :: o).length <;> simp_all

/-- `blockEnd` goes to the next block, to the trailer, or ends the run. -/
theorem blockEnd_cases (s : State) :
    (s.eng.inflate.bfinal = true ∧ s.eng.inflate.zlib = true ∧ blockEnd s = goto .zlibTrailer (alignBits s)) ∨
      (s.eng.inflate.bfinal = true ∧ s.eng.inflate.zlib = false ∧ blockEnd s = runEnd .ok s) ∨
      (s.eng.inflate.bfinal = false ∧ blockEnd s = goto .block s) := by
  unfold blockEnd
  cases s.eng.inflate.bfinal <;> cases s.eng.inflate.zlib <;> simp

/-- `tablesReady` fails the run, or goes to the symbols with both tables built. -/
theorem tablesReady_cases (s : State) :
    (∃ e, tablesReady s = runEnd e s) ∨
      (∃ ll dd, s.eng.inflate.lens.getD 256 0 ≠ 0 ∧
        buildCode .ll (s.eng.inflate.lens.take s.eng.inflate.hlit) = .ok ll ∧
        buildCode .d (s.eng.inflate.lens.drop s.eng.inflate.hlit) = .ok dd ∧
        tablesReady s = goto .llSym (setInflate (fun r => { r with ll := ll, dd := dd }) s)) := by
  unfold tablesReady
  by_cases h : s.eng.inflate.lens.getD 256 0 = 0
  · exact .inl ⟨_, by rw [if_pos h]⟩
  · rw [if_neg h]
    cases hl : buildCode .ll (s.eng.inflate.lens.take s.eng.inflate.hlit) with
    | error e => exact .inl ⟨e, rfl⟩
    | ok ll =>
      cases hd : buildCode .d (s.eng.inflate.lens.drop s.eng.inflate.hlit) with
      | error e => exact .inl ⟨e, rfl⟩
      | ok dd => exact .inr ⟨ll, dd, h, rfl, rfl, rfl⟩

/-- `addLengths` fails the run at an overrun, completes the header, or waits for the next code length. -/
theorem addLengths_cases (v n : Nat) (s : State) :
    (s.eng.inflate.hlit + s.eng.inflate.hdist < s.eng.inflate.lens.length + n ∧
        addLengths v n s = runEnd .badRepeat s) ∨
      (s.eng.inflate.lens.length + n = s.eng.inflate.hlit + s.eng.inflate.hdist ∧
        addLengths v n s = tablesReady (setInflate (fun r => { r with lens := r.lens ++ List.replicate n v }) s)) ∨
      (s.eng.inflate.lens.length + n < s.eng.inflate.hlit + s.eng.inflate.hdist ∧
        addLengths v n s =
          goto .clSym (setInflate (fun r => { r with lens := r.lens ++ List.replicate n v }) s)) := by
  unfold addLengths
  by_cases h : s.eng.inflate.hlit + s.eng.inflate.hdist < s.eng.inflate.lens.length + n
  · exact .inl ⟨h, by rw [if_pos h]⟩
  · rw [if_neg h]
    by_cases h' : s.eng.inflate.lens.length + n = s.eng.inflate.hlit + s.eng.inflate.hdist
    · exact .inr (.inl ⟨h', by simp [h']⟩)
    · exact .inr (.inr ⟨by omega, by simp [h']⟩)

/-- `matchDistance` fails the run, ends the job at the capacity, or copies. -/
theorem matchDistance_cases (dist : Nat) (s : State) :
    (s.eng.out.length < dist ∧ matchDistance dist s = runEnd .dist s) ∨
      (dist ≤ s.eng.out.length ∧ overCap s.cfg (s.eng.out.length + s.eng.inflate.matchLen) = true ∧
        matchDistance dist s = raiseCap 0 s) ∨
      (dist ≤ s.eng.out.length ∧ overCap s.cfg (s.eng.out.length + s.eng.inflate.matchLen) = false ∧
        matchDistance dist s = goto .llSym
          { s with eng := { s.eng with out := copyMatch dist s.eng.inflate.matchLen s.eng.out } }) := by
  unfold matchDistance
  by_cases h : s.eng.out.length < dist
  · exact .inl ⟨h, by simp [h]⟩
  · cases h' : overCap s.cfg (s.eng.out.length + s.eng.inflate.matchLen)
    · exact .inr (.inr ⟨by omega, rfl, by simp [h]⟩)
    · exact .inr (.inl ⟨by omega, rfl, by simp [h]⟩)

/-- `storedBlock` fails the run, or goes to the data of the block. -/
theorem storedBlock_cases (s : State) :
    (∃ e, storedBlock s = runEnd e s) ∨
      (∃ l0 l1 n0 n1 data, s.eng.src.drop (s.eng.bitPos / 8) = l0 :: l1 :: n0 :: n1 :: data ∧
        storedBlock s = storedData (l0.toNat + 256 * l1.toNat) data
          { s with eng := { s.eng with bitPos := s.eng.bitPos + 32 } }) := by
  unfold storedBlock
  split
  · rename_i heq
    split
    · exact .inl ⟨_, rfl⟩
    · exact .inr ⟨_, _, _, _, _, heq, rfl⟩
  · exact .inl ⟨_, rfl⟩

/-- `emitGroup` takes the overflow exception, ends the job at the capacity, or emits and goes on. -/
theorem emitGroup_cases (k v : Nat) (s : State) (next : State → State) :
    (2 ^ 32 ≤ v ∧ emitGroup k v s next = raise .a85Overflow 2 s) ∨
      (v < 2 ^ 32 ∧ overCap s.cfg (s.eng.out.length + (groupBytes k v).length) = true ∧
        emitGroup k v s next = raiseCap 2 s) ∨
      (v < 2 ^ 32 ∧ overCap s.cfg (s.eng.out.length + (groupBytes k v).length) = false ∧
        emitGroup k v s next =
          next { s with eng := { s.eng with out := s.eng.out ++ groupBytes k v, acc := 0, ngrp := 0 } }) := by
  unfold emitGroup emit
  by_cases h : 2 ^ 32 ≤ v
  · exact .inl ⟨h, by rw [if_pos h]⟩
  · cases h' : overCap s.cfg (s.eng.out.length + (groupBytes k v).length)
    · exact .inr (.inr ⟨by omega, rfl, by rw [if_neg h]; simp⟩)
    · exact .inr (.inl ⟨by omega, rfl, by rw [if_neg h]; simp⟩)

/-- `enterPredictor` takes one of its two exceptions, or begins the run. -/
theorem enterPredictor_cases (selector row : Nat) (implied : Option Nat) (p : Phase) (s : State) :
    (legalGeometry s.j.desc = false ∧ enterPredictor selector row implied p s = badParams selector s) ∨
      (legalGeometry s.j.desc = true ∧ s.cur.length % row ≠ 0 ∧
        enterPredictor selector row implied p s = raise (.predRowMismatch s.cur.length row) 8 s) ∨
      (legalGeometry s.j.desc = true ∧ s.cur.length % row = 0 ∧
        enterPredictor selector row implied p s =
          { s with
            phase := p
            eng := { Engine.empty with
              src := s.cur, pred := ⟨List.replicate (pixelBytes s.j.desc) 0, implied, 0⟩ } }) := by
  unfold enterPredictor
  cases h : legalGeometry s.j.desc
  · exact .inl ⟨rfl, by simp⟩
  · by_cases h' : s.cur.length % row = 0
    · exact .inr (.inr ⟨rfl, h', by simp [h']⟩)
    · exact .inr (.inl ⟨rfl, h', by simp [h']⟩)

/-- `finishBitmap` ends the job at the capacity, or with the bitmap. -/
theorem finishBitmap_cases (bm : Bytes) (s : State) :
    (overCap s.cfg bm.length = true ∧ finishBitmap bm s = raiseCap 6 s) ∨
      (overCap s.cfg bm.length = false ∧ finishBitmap bm s = finishJob (invertBitmap (blackIs1 s.j.desc) bm) s) := by
  unfold finishBitmap
  cases h : overCap s.cfg bm.length <;> simp

/-- `attemptEnd` ends the job with rows, retries once, or ends it white. -/
theorem attemptEnd_cases (trs : List (List Nat)) (s : State) :
    (trs ≠ [] ∧ attemptEnd trs s = finishRows trs s) ∨
      (trs = [] ∧ s.eng.fax.attempt = 1 ∧
        attemptEnd trs s = goto .faxBegin (setFax (fun _ => FaxRegs.init 2) (setCcittRetry s))) ∨
      (trs = [] ∧ s.eng.fax.attempt ≠ 1 ∧ attemptEnd trs s = finishRows [] (setCcittWhite s)) := by
  unfold attemptEnd
  by_cases h : trs = []
  · by_cases h' : s.eng.fax.attempt = 1
    · exact .inr (.inl ⟨h, h', by simp [h, h']⟩)
    · exact .inr (.inr ⟨h, h', by simp [h, h']⟩)
  · exact .inl ⟨h, by simp [h]⟩

/-- `continue2D` reads the next mode, or completes the row. -/
theorem continue2D_cases (s : State) :
    (s.eng.fax.a0 < (faxColumns s : Int) ∧ continue2D s = goto .faxMode s) ∨
      ((faxColumns s : Int) ≤ s.eng.fax.a0 ∧ continue2D s = rowDone s.eng.fax.t s) := by
  unfold continue2D
  by_cases h : s.eng.fax.a0 < (faxColumns s : Int)
  · exact .inl ⟨h, by simp [h]⟩
  · exact .inr ⟨by omega, by simp [h]⟩

/-- `vertical` stops, or records one transition. -/
theorem vertical_cases (d : Int) (s : State) :
    vertical d s = faxStop s ∨
      (∃ a1 : Int, a1 = (findB (faxColumns s) s.eng.fax).1 + d ∧ (a0Pos s.eng.fax : Int) ≤ a1 ∧
        a1 ≤ (faxColumns s : Int) ∧
        vertical d s = continue2D (setFax (fun f =>
          { f with t := f.t ++ [a1.toNat], a0 := a1, colour := otherColour f.colour }) s)) := by
  unfold vertical
  by_cases h : (faxColumns s : Int) < (findB (faxColumns s) s.eng.fax).1 + d ∨
      ((findB (faxColumns s) s.eng.fax).1 : Int) + d < (a0Pos s.eng.fax : Int)
  · exact .inl (by simp only [if_pos h])
  · exact .inr ⟨_, rfl, by omega, by omega, by simp only [if_neg h]⟩

/-- What becomes of a run length (R395, R398). -/
theorem runComplete_cases (run : Nat) (s : State) :
    runComplete run s = faxStop s ∨
      (s.eng.fax.use = .row1d ∧ s.eng.fax.pos + run < faxColumns s ∧
        runComplete run s = goto .faxRun (setFax (fun f =>
          { f with pos := f.pos + run, t := f.t ++ [f.pos + run], colour := otherColour f.colour, total := 0 }) s)) ∨
      (s.eng.fax.use = .row1d ∧ s.eng.fax.pos + run = faxColumns s ∧
        runComplete run s = rowDone (s.eng.fax.t ++ [s.eng.fax.pos + run]) s) ∨
      (s.eng.fax.use = .horiz1 ∧
        runComplete run s =
          goto .faxRun (setFax (fun f => { f with use := .horiz2 (a0Pos f + run), total := 0 }) s)) ∨
      (∃ a1, s.eng.fax.use = .horiz2 a1 ∧ a1 + run ≤ faxColumns s ∧
        runComplete run s = continue2D (setFax (fun f =>
          { f with t := f.t ++ [a1, a1 + run], a0 := ((a1 + run : Nat) : Int) }) s)) := by
  unfold runComplete
  split
  · rename_i hu
    by_cases h : faxColumns s < s.eng.fax.pos + run
    · exact .inl (by simp only [if_pos h])
    · by_cases h' : s.eng.fax.pos + run < faxColumns s
      · exact .inr (.inl ⟨hu, h', by simp only [if_neg h, if_pos h']⟩)
      · exact .inr (.inr (.inl ⟨hu, by omega, by simp only [if_neg h, if_neg h']⟩))
  · rename_i hu
    exact .inr (.inr (.inr (.inl ⟨hu, rfl⟩)))
  · rename_i a1 hu
    by_cases h : faxColumns s < a1 + run
    · exact .inl (by simp only [if_pos h])
    · exact .inr (.inr (.inr (.inr ⟨a1, hu, by omega, by simp only [if_neg h]⟩)))

/-- `beginRow` ends the attempt when all rows are done, or looks for EOL codes, aligned where it must. -/
theorem beginRow_cases (s : State) :
    (rowsComplete s = true ∧ beginRow s = attemptEnd s.eng.fax.rowsDone s) ∨
      (rowsComplete s = false ∧
        (beginRow s = goto .faxEol (setFax (fun f => { f with eols := 0 }) (alignBits s)) ∨
          beginRow s = goto .faxEol (setFax (fun f => { f with eols := 0 }) s))) := by
  unfold beginRow
  cases h : rowsComplete s
  · cases h' : byteAlign s.j.desc && (isGroup4 s.j.desc || !announced s)
    · exact .inr ⟨rfl, .inr (by simp)⟩
    · exact .inr ⟨rfl, .inl (by simp)⟩
  · exact .inl ⟨rfl, by simp⟩

/-- `eolsDone` ends the attempt, or begins a row. -/
theorem eolsDone_cases (s : State) :
    eolsDone s = attemptEnd s.eng.fax.rowsDone s ∨ eolsDone s = beginRow2D s ∨ eolsDone s = beginRowBody s := by
  unfold eolsDone faxStop
  repeat' split
  all_goals simp

/-- The rows of a replaced engine are its answer, which keeps the contract, or none. -/
theorem faxEngineRows_cases (b : Bytes) (p : FaxParams) :
    (meetsContract p (Config.faxEngine b p) = true ∧ faxEngineRows b p = Config.faxEngine b p) ∨
      (meetsContract p (Config.faxEngine b p) = false ∧ faxEngineRows b p = []) := by
  unfold faxEngineRows
  cases meetsContract p (Config.faxEngine b p) <;> simp

/-- `meetsContract` is the contract of R353. -/
theorem meetsContract_iff (p : FaxParams) (trs : List (List Nat)) :
    meetsContract p trs = true ↔
      (∀ r ∈ trs, r.Pairwise (· ≤ ·) ∧ ∀ x ∈ r, x ≤ p.columns) ∧ ∀ n, p.rows = some n → trs.length ≤ n := by
  unfold meetsContract
  cases p.rows <;> simp

/-- `beginAttempt` answers at once, or begins the reference engine. -/
theorem beginAttempt_cases (s : State) :
    (faxColumns s = 0 ∧ beginAttempt s = finishBitmap [] (setCcittWhite s)) ∨
      (faxColumns s ≠ 0 ∧ s.cfg.faxEngineReplaced = true ∧
        beginAttempt s = attemptEnd (faxEngineRows (attemptInput s) (faxParams s.j.desc)) s) ∨
      (faxColumns s ≠ 0 ∧ s.cfg.faxEngineReplaced = false ∧
        beginAttempt s = goto .faxRowStart
          { s with eng := { Engine.empty with src := attemptInput s, fax := FaxRegs.init s.eng.fax.attempt } }) := by
  unfold beginAttempt
  by_cases h : faxColumns s = 0
  · exact .inl ⟨h, by simp [h]⟩
  · cases h' : s.cfg.faxEngineReplaced
    · exact .inr (.inr ⟨h, rfl, by simp [h]⟩)
    · exact .inr (.inl ⟨h, rfl, by simp [h]⟩)

/-- A step of the block is an event, an instruction, or what the block does without one. -/
theorem blockStep_cases (s : State) :
    (∃ e, want (prepare s) = .event e ∧ blockStep s = .next (handleEvent e (prepare s))) ∨
      (∃ f bs i used, want (prepare s) = .code f bs ∧ decode f bs = .instr i used ∧
        blockStep s = exec i (advance f used (prepare s))) ∨
      (∃ f bs r, want (prepare s) = .code f bs ∧ decode f bs = .reject r ∧
        blockStep s = .next (handleReject r (prepare s))) := by
  unfold blockStep
  cases hw : want (prepare s) with
  | event e => exact .inl ⟨e, rfl, rfl⟩
  | code f bs =>
    cases hd : decode f bs with
    | instr i used => exact .inr (.inl ⟨f, bs, i, used, rfl, hd, by simp only [hd]⟩)
    | reject r => exact .inr (.inr ⟨f, bs, r, rfl, hd, by simp only [hd]⟩)

/-- A length that fits LEN_BITS is reported as it is. -/
theorem lenWord_toNat (cfg : Config) (n : Nat) (hl : cfg.lenBits ≤ 64) (hn : n < 2 ^ cfg.lenBits) :
    (lenWord cfg n).toNat = n := by
  have h : 2 ^ cfg.lenBits ≤ 2 ^ 64 := Nat.pow_le_pow_right (by decide) hl
  rw [lenWord, Nat.mod_eq_of_lt hn, BitVec.toNat_ofNat, Nat.mod_eq_of_lt (Nat.lt_of_lt_of_le hn h)]

/-- A stage number that fits ESTAGE is reported as it is. -/
theorem stageWord_toNat (cfg : Config) (n : Nat) (hl : cfg.nfiltBits ≤ 64) (hn : n < 2 ^ cfg.nfiltBits) :
    (stageWord cfg n).toNat = n := by
  have h : 2 ^ cfg.nfiltBits ≤ 2 ^ 64 := Nat.pow_le_pow_right (by decide) hl
  rw [stageWord, Nat.mod_eq_of_lt hn, BitVec.toNat_ofNat, Nat.mod_eq_of_lt (Nat.lt_of_lt_of_le hn h)]

/-- The string of an assigned code is the one the table holds for it. -/
theorem lzwString_assigned (r : LzwRegs) (c : Nat) (h : 258 ≤ c) (hc : c < r.nextCode) :
    lzwString r c = r.tab[c - 258]? := by rw [lzwString, if_neg (by omega), if_pos ⟨h, hc⟩]

end Sys2Proof.Machine
end

