-- ==== Sys2Proof/Laws/State.lean ====
section
/-! SUPPORT. One lemma for each field of State and each named update of it: what the field holds after the update. -/

namespace Sys2Proof.Machine

open Sys2Proof

/-! ## goto -/

@[simp] theorem goto_cfg (p : Phase) (s : State) : (goto p s).cfg = s.cfg := rfl
@[simp] theorem goto_moves (p : Phase) (s : State) : (goto p s).moves = s.moves := rfl
@[simp] theorem goto_hostData (p : Phase) (s : State) : (goto p s).hostData = s.hostData := rfl
@[simp] theorem goto_draws (p : Phase) (s : State) : (goto p s).draws = s.draws := rfl
@[simp] theorem goto_status (p : Phase) (s : State) : (goto p s).status = s.status := rfl
@[simp] theorem goto_inLen (p : Phase) (s : State) : (goto p s).inLen = s.inLen := rfl
@[simp] theorem goto_outLen (p : Phase) (s : State) : (goto p s).outLen = s.outLen := rfl
@[simp] theorem goto_desc (p : Phase) (s : State) : (goto p s).desc = s.desc := rfl
@[simp] theorem goto_einfo0 (p : Phase) (s : State) : (goto p s).einfo0 = s.einfo0 := rfl
@[simp] theorem goto_einfo1 (p : Phase) (s : State) : (goto p s).einfo1 = s.einfo1 := rfl
@[simp] theorem goto_einfo2 (p : Phase) (s : State) : (goto p s).einfo2 = s.einfo2 := rfl
@[simp] theorem goto_einfo3 (p : Phase) (s : State) : (goto p s).einfo3 = s.einfo3 := rfl
@[simp] theorem goto_flt (p : Phase) (s : State) : (goto p s).flt = s.flt := rfl
@[simp] theorem goto_inp (p : Phase) (s : State) : (goto p s).inp = s.inp := rfl
@[simp] theorem goto_out (p : Phase) (s : State) : (goto p s).out = s.out := rfl
@[simp] theorem goto_stage (p : Phase) (s : State) : (goto p s).stage = s.stage := rfl
@[simp] theorem goto_cur (p : Phase) (s : State) : (goto p s).cur = s.cur := rfl
@[simp] theorem goto_origLen (p : Phase) (s : State) : (goto p s).origLen = s.origLen := rfl
@[simp] theorem goto_j (p : Phase) (s : State) : (goto p s).j = s.j := rfl
@[simp] theorem goto_phase (p : Phase) (s : State) : (goto p s).phase = p := rfl
@[simp] theorem goto_eng (p : Phase) (s : State) : (goto p s).eng = s.eng := rfl

/-! ## setInflate -/

@[simp] theorem setInflate_cfg (f : InflateRegs → InflateRegs) (s : State) : (setInflate f s).cfg = s.cfg := rfl
@[simp] theorem setInflate_moves (f : InflateRegs → InflateRegs) (s : State) : (setInflate f s).moves = s.moves := rfl
@[simp] theorem setInflate_hostData (f : InflateRegs → InflateRegs) (s : State) :
    (setInflate f s).hostData = s.hostData := rfl
@[simp] theorem setInflate_draws (f : InflateRegs → InflateRegs) (s : State) : (setInflate f s).draws = s.draws := rfl
@[simp] theorem setInflate_status (f : InflateRegs → InflateRegs) (s : State) :
    (setInflate f s).status = s.status := rfl
@[simp] theorem setInflate_inLen (f : InflateRegs → InflateRegs) (s : State) : (setInflate f s).inLen = s.inLen := rfl
@[simp] theorem setInflate_outLen (f : InflateRegs → InflateRegs) (s : State) :
    (setInflate f s).outLen = s.outLen := rfl
@[simp] theorem setInflate_desc (f : InflateRegs → InflateRegs) (s : State) : (setInflate f s).desc = s.desc := rfl
@[simp] theorem setInflate_einfo0 (f : InflateRegs → InflateRegs) (s : State) :
    (setInflate f s).einfo0 = s.einfo0 := rfl
@[simp] theorem setInflate_einfo1 (f : InflateRegs → InflateRegs) (s : State) :
    (setInflate f s).einfo1 = s.einfo1 := rfl
@[simp] theorem setInflate_einfo2 (f : InflateRegs → InflateRegs) (s : State) :
    (setInflate f s).einfo2 = s.einfo2 := rfl
@[simp] theorem setInflate_einfo3 (f : InflateRegs → InflateRegs) (s : State) :
    (setInflate f s).einfo3 = s.einfo3 := rfl
@[simp] theorem setInflate_flt (f : InflateRegs → InflateRegs) (s : State) : (setInflate f s).flt = s.flt := rfl
@[simp] theorem setInflate_inp (f : InflateRegs → InflateRegs) (s : State) : (setInflate f s).inp = s.inp := rfl
@[simp] theorem setInflate_out (f : InflateRegs → InflateRegs) (s : State) : (setInflate f s).out = s.out := rfl
@[simp] theorem setInflate_stage (f : InflateRegs → InflateRegs) (s : State) : (setInflate f s).stage = s.stage := rfl
@[simp] theorem setInflate_cur (f : InflateRegs → InflateRegs) (s : State) : (setInflate f s).cur = s.cur := rfl
@[simp] theorem setInflate_origLen (f : InflateRegs → InflateRegs) (s : State) :
    (setInflate f s).origLen = s.origLen := rfl
@[simp] theorem setInflate_j (f : InflateRegs → InflateRegs) (s : State) : (setInflate f s).j = s.j := rfl
@[simp] theorem setInflate_phase (f : InflateRegs → InflateRegs) (s : State) : (setInflate f s).phase = s.phase := rfl
@[simp] theorem setInflate_eng (f : InflateRegs → InflateRegs) (s : State) :
    (setInflate f s).eng = { s.eng with inflate := f s.eng.inflate } := rfl

/-! ## setFax -/

@[simp] theorem setFax_cfg (f : FaxRegs → FaxRegs) (s : State) : (setFax f s).cfg = s.cfg := rfl
@[simp] theorem setFax_moves (f : FaxRegs → FaxRegs) (s : State) : (setFax f s).moves = s.moves := rfl
@[simp] theorem setFax_hostData (f : FaxRegs → FaxRegs) (s : State) : (setFax f s).hostData = s.hostData := rfl
@[simp] theorem setFax_draws (f : FaxRegs → FaxRegs) (s : State) : (setFax f s).draws = s.draws := rfl
@[simp] theorem setFax_status (f : FaxRegs → FaxRegs) (s : State) : (setFax f s).status = s.status := rfl
@[simp] theorem setFax_inLen (f : FaxRegs → FaxRegs) (s : State) : (setFax f s).inLen = s.inLen := rfl
@[simp] theorem setFax_outLen (f : FaxRegs → FaxRegs) (s : State) : (setFax f s).outLen = s.outLen := rfl
@[simp] theorem setFax_desc (f : FaxRegs → FaxRegs) (s : State) : (setFax f s).desc = s.desc := rfl
@[simp] theorem setFax_einfo0 (f : FaxRegs → FaxRegs) (s : State) : (setFax f s).einfo0 = s.einfo0 := rfl
@[simp] theorem setFax_einfo1 (f : FaxRegs → FaxRegs) (s : State) : (setFax f s).einfo1 = s.einfo1 := rfl
@[simp] theorem setFax_einfo2 (f : FaxRegs → FaxRegs) (s : State) : (setFax f s).einfo2 = s.einfo2 := rfl
@[simp] theorem setFax_einfo3 (f : FaxRegs → FaxRegs) (s : State) : (setFax f s).einfo3 = s.einfo3 := rfl
@[simp] theorem setFax_flt (f : FaxRegs → FaxRegs) (s : State) : (setFax f s).flt = s.flt := rfl
@[simp] theorem setFax_inp (f : FaxRegs → FaxRegs) (s : State) : (setFax f s).inp = s.inp := rfl
@[simp] theorem setFax_out (f : FaxRegs → FaxRegs) (s : State) : (setFax f s).out = s.out := rfl
@[simp] theorem setFax_stage (f : FaxRegs → FaxRegs) (s : State) : (setFax f s).stage = s.stage := rfl
@[simp] theorem setFax_cur (f : FaxRegs → FaxRegs) (s : State) : (setFax f s).cur = s.cur := rfl
@[simp] theorem setFax_origLen (f : FaxRegs → FaxRegs) (s : State) : (setFax f s).origLen = s.origLen := rfl
@[simp] theorem setFax_j (f : FaxRegs → FaxRegs) (s : State) : (setFax f s).j = s.j := rfl
@[simp] theorem setFax_phase (f : FaxRegs → FaxRegs) (s : State) : (setFax f s).phase = s.phase := rfl
@[simp] theorem setFax_eng (f : FaxRegs → FaxRegs) (s : State) :
    (setFax f s).eng = { s.eng with fax := f s.eng.fax } := rfl

/-! ## setStrategy -/

@[simp] theorem setStrategy_cfg (n : Nat) (s : State) : (setStrategy n s).cfg = s.cfg := rfl
@[simp] theorem setStrategy_moves (n : Nat) (s : State) : (setStrategy n s).moves = s.moves := rfl
@[simp] theorem setStrategy_hostData (n : Nat) (s : State) : (setStrategy n s).hostData = s.hostData := rfl
@[simp] theorem setStrategy_draws (n : Nat) (s : State) : (setStrategy n s).draws = s.draws := rfl
@[simp] theorem setStrategy_status (n : Nat) (s : State) : (setStrategy n s).status = s.status := rfl
@[simp] theorem setStrategy_inLen (n : Nat) (s : State) : (setStrategy n s).inLen = s.inLen := rfl
@[simp] theorem setStrategy_outLen (n : Nat) (s : State) : (setStrategy n s).outLen = s.outLen := rfl
@[simp] theorem setStrategy_desc (n : Nat) (s : State) : (setStrategy n s).desc = s.desc := rfl
@[simp] theorem setStrategy_einfo0 (n : Nat) (s : State) : (setStrategy n s).einfo0 = s.einfo0 := rfl
@[simp] theorem setStrategy_einfo1 (n : Nat) (s : State) : (setStrategy n s).einfo1 = s.einfo1 := rfl
@[simp] theorem setStrategy_einfo2 (n : Nat) (s : State) : (setStrategy n s).einfo2 = s.einfo2 := rfl
@[simp] theorem setStrategy_einfo3 (n : Nat) (s : State) : (setStrategy n s).einfo3 = s.einfo3 := rfl
@[simp] theorem setStrategy_flt (n : Nat) (s : State) : (setStrategy n s).flt = s.flt := rfl
@[simp] theorem setStrategy_inp (n : Nat) (s : State) : (setStrategy n s).inp = s.inp := rfl
@[simp] theorem setStrategy_out (n : Nat) (s : State) : (setStrategy n s).out = s.out := rfl
@[simp] theorem setStrategy_stage (n : Nat) (s : State) : (setStrategy n s).stage = s.stage := rfl
@[simp] theorem setStrategy_cur (n : Nat) (s : State) : (setStrategy n s).cur = s.cur := rfl
@[simp] theorem setStrategy_origLen (n : Nat) (s : State) : (setStrategy n s).origLen = s.origLen := rfl
@[simp] theorem setStrategy_j (n : Nat) (s : State) : (setStrategy n s).j = s.j := rfl
@[simp] theorem setStrategy_phase (n : Nat) (s : State) : (setStrategy n s).phase = s.phase := rfl
@[simp] theorem setStrategy_eng (n : Nat) (s : State) :
    (setStrategy n s).eng = { s.eng with ladder := { s.eng.ladder with step := n } } := rfl

/-! ## setFinal -/

@[simp] theorem setFinal_cfg (b : Bool) (s : State) : (setFinal b s).cfg = s.cfg := rfl
@[simp] theorem setFinal_moves (b : Bool) (s : State) : (setFinal b s).moves = s.moves := rfl
@[simp] theorem setFinal_hostData (b : Bool) (s : State) : (setFinal b s).hostData = s.hostData := rfl
@[simp] theorem setFinal_draws (b : Bool) (s : State) : (setFinal b s).draws = s.draws := rfl
@[simp] theorem setFinal_status (b : Bool) (s : State) : (setFinal b s).status = s.status := rfl
@[simp] theorem setFinal_inLen (b : Bool) (s : State) : (setFinal b s).inLen = s.inLen := rfl
@[simp] theorem setFinal_outLen (b : Bool) (s : State) : (setFinal b s).outLen = s.outLen := rfl
@[simp] theorem setFinal_desc (b : Bool) (s : State) : (setFinal b s).desc = s.desc := rfl
@[simp] theorem setFinal_einfo0 (b : Bool) (s : State) : (setFinal b s).einfo0 = s.einfo0 := rfl
@[simp] theorem setFinal_einfo1 (b : Bool) (s : State) : (setFinal b s).einfo1 = s.einfo1 := rfl
@[simp] theorem setFinal_einfo2 (b : Bool) (s : State) : (setFinal b s).einfo2 = s.einfo2 := rfl
@[simp] theorem setFinal_einfo3 (b : Bool) (s : State) : (setFinal b s).einfo3 = s.einfo3 := rfl
@[simp] theorem setFinal_flt (b : Bool) (s : State) : (setFinal b s).flt = s.flt := rfl
@[simp] theorem setFinal_inp (b : Bool) (s : State) : (setFinal b s).inp = s.inp := rfl
@[simp] theorem setFinal_out (b : Bool) (s : State) : (setFinal b s).out = s.out := rfl
@[simp] theorem setFinal_stage (b : Bool) (s : State) : (setFinal b s).stage = s.stage := rfl
@[simp] theorem setFinal_cur (b : Bool) (s : State) : (setFinal b s).cur = s.cur := rfl
@[simp] theorem setFinal_origLen (b : Bool) (s : State) : (setFinal b s).origLen = s.origLen := rfl
@[simp] theorem setFinal_j (b : Bool) (s : State) : (setFinal b s).j = s.j := rfl
@[simp] theorem setFinal_phase (b : Bool) (s : State) : (setFinal b s).phase = s.phase := rfl
@[simp] theorem setFinal_eng (b : Bool) (s : State) :
    (setFinal b s).eng = { s.eng with inflate := { s.eng.inflate with bfinal := b } } := rfl

/-! ## alignBits -/

@[simp] theorem alignBits_cfg (s : State) : (alignBits s).cfg = s.cfg := rfl
@[simp] theorem alignBits_moves (s : State) : (alignBits s).moves = s.moves := rfl
@[simp] theorem alignBits_hostData (s : State) : (alignBits s).hostData = s.hostData := rfl
@[simp] theorem alignBits_draws (s : State) : (alignBits s).draws = s.draws := rfl
@[simp] theorem alignBits_status (s : State) : (alignBits s).status = s.status := rfl
@[simp] theorem alignBits_inLen (s : State) : (alignBits s).inLen = s.inLen := rfl
@[simp] theorem alignBits_outLen (s : State) : (alignBits s).outLen = s.outLen := rfl
@[simp] theorem alignBits_desc (s : State) : (alignBits s).desc = s.desc := rfl
@[simp] theorem alignBits_einfo0 (s : State) : (alignBits s).einfo0 = s.einfo0 := rfl
@[simp] theorem alignBits_einfo1 (s : State) : (alignBits s).einfo1 = s.einfo1 := rfl
@[simp] theorem alignBits_einfo2 (s : State) : (alignBits s).einfo2 = s.einfo2 := rfl
@[simp] theorem alignBits_einfo3 (s : State) : (alignBits s).einfo3 = s.einfo3 := rfl
@[simp] theorem alignBits_flt (s : State) : (alignBits s).flt = s.flt := rfl
@[simp] theorem alignBits_inp (s : State) : (alignBits s).inp = s.inp := rfl
@[simp] theorem alignBits_out (s : State) : (alignBits s).out = s.out := rfl
@[simp] theorem alignBits_stage (s : State) : (alignBits s).stage = s.stage := rfl
@[simp] theorem alignBits_cur (s : State) : (alignBits s).cur = s.cur := rfl
@[simp] theorem alignBits_origLen (s : State) : (alignBits s).origLen = s.origLen := rfl
@[simp] theorem alignBits_j (s : State) : (alignBits s).j = s.j := rfl
@[simp] theorem alignBits_phase (s : State) : (alignBits s).phase = s.phase := rfl
@[simp] theorem alignBits_eng (s : State) :
    (alignBits s).eng = { s.eng with bitPos := 8 * ((s.eng.bitPos + 7) / 8) } := rfl

/-! ## logFlate -/

@[simp] theorem logFlate_cfg (n : Nat) (b : Bool) (s : State) : (logFlate n b s).cfg = s.cfg := rfl
@[simp] theorem logFlate_moves (n : Nat) (b : Bool) (s : State) : (logFlate n b s).moves = s.moves := rfl
@[simp] theorem logFlate_hostData (n : Nat) (b : Bool) (s : State) : (logFlate n b s).hostData = s.hostData := rfl
@[simp] theorem logFlate_draws (n : Nat) (b : Bool) (s : State) : (logFlate n b s).draws = s.draws := rfl
@[simp] theorem logFlate_status (n : Nat) (b : Bool) (s : State) :
    (logFlate n b s).status =
      { s.status with
        flateStep := BitVec.ofNat 3 n
        flatePartial := s.status.flatePartial || b } := rfl
@[simp] theorem logFlate_inLen (n : Nat) (b : Bool) (s : State) : (logFlate n b s).inLen = s.inLen := rfl
@[simp] theorem logFlate_outLen (n : Nat) (b : Bool) (s : State) : (logFlate n b s).outLen = s.outLen := rfl
@[simp] theorem logFlate_desc (n : Nat) (b : Bool) (s : State) : (logFlate n b s).desc = s.desc := rfl
@[simp] theorem logFlate_einfo0 (n : Nat) (b : Bool) (s : State) : (logFlate n b s).einfo0 = s.einfo0 := rfl
@[simp] theorem logFlate_einfo1 (n : Nat) (b : Bool) (s : State) : (logFlate n b s).einfo1 = s.einfo1 := rfl
@[simp] theorem logFlate_einfo2 (n : Nat) (b : Bool) (s : State) : (logFlate n b s).einfo2 = s.einfo2 := rfl
@[simp] theorem logFlate_einfo3 (n : Nat) (b : Bool) (s : State) : (logFlate n b s).einfo3 = s.einfo3 := rfl
@[simp] theorem logFlate_flt (n : Nat) (b : Bool) (s : State) : (logFlate n b s).flt = s.flt := rfl
@[simp] theorem logFlate_inp (n : Nat) (b : Bool) (s : State) : (logFlate n b s).inp = s.inp := rfl
@[simp] theorem logFlate_out (n : Nat) (b : Bool) (s : State) : (logFlate n b s).out = s.out := rfl
@[simp] theorem logFlate_stage (n : Nat) (b : Bool) (s : State) : (logFlate n b s).stage = s.stage := rfl
@[simp] theorem logFlate_cur (n : Nat) (b : Bool) (s : State) : (logFlate n b s).cur = s.cur := rfl
@[simp] theorem logFlate_origLen (n : Nat) (b : Bool) (s : State) : (logFlate n b s).origLen = s.origLen := rfl
@[simp] theorem logFlate_j (n : Nat) (b : Bool) (s : State) : (logFlate n b s).j = s.j := rfl
@[simp] theorem logFlate_phase (n : Nat) (b : Bool) (s : State) : (logFlate n b s).phase = s.phase := rfl
@[simp] theorem logFlate_eng (n : Nat) (b : Bool) (s : State) : (logFlate n b s).eng = s.eng := rfl

/-! ## setLzwFallback -/

@[simp] theorem setLzwFallback_cfg (s : State) : (setLzwFallback s).cfg = s.cfg := rfl
@[simp] theorem setLzwFallback_moves (s : State) : (setLzwFallback s).moves = s.moves := rfl
@[simp] theorem setLzwFallback_hostData (s : State) : (setLzwFallback s).hostData = s.hostData := rfl
@[simp] theorem setLzwFallback_draws (s : State) : (setLzwFallback s).draws = s.draws := rfl
@[simp] theorem setLzwFallback_status (s : State) :
    (setLzwFallback s).status = { s.status with lzwFallback := true } := rfl
@[simp] theorem setLzwFallback_inLen (s : State) : (setLzwFallback s).inLen = s.inLen := rfl
@[simp] theorem setLzwFallback_outLen (s : State) : (setLzwFallback s).outLen = s.outLen := rfl
@[simp] theorem setLzwFallback_desc (s : State) : (setLzwFallback s).desc = s.desc := rfl
@[simp] theorem setLzwFallback_einfo0 (s : State) : (setLzwFallback s).einfo0 = s.einfo0 := rfl
@[simp] theorem setLzwFallback_einfo1 (s : State) : (setLzwFallback s).einfo1 = s.einfo1 := rfl
@[simp] theorem setLzwFallback_einfo2 (s : State) : (setLzwFallback s).einfo2 = s.einfo2 := rfl
@[simp] theorem setLzwFallback_einfo3 (s : State) : (setLzwFallback s).einfo3 = s.einfo3 := rfl
@[simp] theorem setLzwFallback_flt (s : State) : (setLzwFallback s).flt = s.flt := rfl
@[simp] theorem setLzwFallback_inp (s : State) : (setLzwFallback s).inp = s.inp := rfl
@[simp] theorem setLzwFallback_out (s : State) : (setLzwFallback s).out = s.out := rfl
@[simp] theorem setLzwFallback_stage (s : State) : (setLzwFallback s).stage = s.stage := rfl
@[simp] theorem setLzwFallback_cur (s : State) : (setLzwFallback s).cur = s.cur := rfl
@[simp] theorem setLzwFallback_origLen (s : State) : (setLzwFallback s).origLen = s.origLen := rfl
@[simp] theorem setLzwFallback_j (s : State) : (setLzwFallback s).j = s.j := rfl
@[simp] theorem setLzwFallback_phase (s : State) : (setLzwFallback s).phase = s.phase := rfl
@[simp] theorem setLzwFallback_eng (s : State) : (setLzwFallback s).eng = s.eng := rfl

/-! ## setCcittRetry -/

@[simp] theorem setCcittRetry_cfg (s : State) : (setCcittRetry s).cfg = s.cfg := rfl
@[simp] theorem setCcittRetry_moves (s : State) : (setCcittRetry s).moves = s.moves := rfl
@[simp] theorem setCcittRetry_hostData (s : State) : (setCcittRetry s).hostData = s.hostData := rfl
@[simp] theorem setCcittRetry_draws (s : State) : (setCcittRetry s).draws = s.draws := rfl
@[simp] theorem setCcittRetry_status (s : State) :
    (setCcittRetry s).status = { s.status with ccittRetry := true } := rfl
@[simp] theorem setCcittRetry_inLen (s : State) : (setCcittRetry s).inLen = s.inLen := rfl
@[simp] theorem setCcittRetry_outLen (s : State) : (setCcittRetry s).outLen = s.outLen := rfl
@[simp] theorem setCcittRetry_desc (s : State) : (setCcittRetry s).desc = s.desc := rfl
@[simp] theorem setCcittRetry_einfo0 (s : State) : (setCcittRetry s).einfo0 = s.einfo0 := rfl
@[simp] theorem setCcittRetry_einfo1 (s : State) : (setCcittRetry s).einfo1 = s.einfo1 := rfl
@[simp] theorem setCcittRetry_einfo2 (s : State) : (setCcittRetry s).einfo2 = s.einfo2 := rfl
@[simp] theorem setCcittRetry_einfo3 (s : State) : (setCcittRetry s).einfo3 = s.einfo3 := rfl
@[simp] theorem setCcittRetry_flt (s : State) : (setCcittRetry s).flt = s.flt := rfl
@[simp] theorem setCcittRetry_inp (s : State) : (setCcittRetry s).inp = s.inp := rfl
@[simp] theorem setCcittRetry_out (s : State) : (setCcittRetry s).out = s.out := rfl
@[simp] theorem setCcittRetry_stage (s : State) : (setCcittRetry s).stage = s.stage := rfl
@[simp] theorem setCcittRetry_cur (s : State) : (setCcittRetry s).cur = s.cur := rfl
@[simp] theorem setCcittRetry_origLen (s : State) : (setCcittRetry s).origLen = s.origLen := rfl
@[simp] theorem setCcittRetry_j (s : State) : (setCcittRetry s).j = s.j := rfl
@[simp] theorem setCcittRetry_phase (s : State) : (setCcittRetry s).phase = s.phase := rfl
@[simp] theorem setCcittRetry_eng (s : State) : (setCcittRetry s).eng = s.eng := rfl

/-! ## setCcittWhite -/

@[simp] theorem setCcittWhite_cfg (s : State) : (setCcittWhite s).cfg = s.cfg := rfl
@[simp] theorem setCcittWhite_moves (s : State) : (setCcittWhite s).moves = s.moves := rfl
@[simp] theorem setCcittWhite_hostData (s : State) : (setCcittWhite s).hostData = s.hostData := rfl
@[simp] theorem setCcittWhite_draws (s : State) : (setCcittWhite s).draws = s.draws := rfl
@[simp] theorem setCcittWhite_status (s : State) :
    (setCcittWhite s).status = { s.status with ccittWhite := true } := rfl
@[simp] theorem setCcittWhite_inLen (s : State) : (setCcittWhite s).inLen = s.inLen := rfl
@[simp] theorem setCcittWhite_outLen (s : State) : (setCcittWhite s).outLen = s.outLen := rfl
@[simp] theorem setCcittWhite_desc (s : State) : (setCcittWhite s).desc = s.desc := rfl
@[simp] theorem setCcittWhite_einfo0 (s : State) : (setCcittWhite s).einfo0 = s.einfo0 := rfl
@[simp] theorem setCcittWhite_einfo1 (s : State) : (setCcittWhite s).einfo1 = s.einfo1 := rfl
@[simp] theorem setCcittWhite_einfo2 (s : State) : (setCcittWhite s).einfo2 = s.einfo2 := rfl
@[simp] theorem setCcittWhite_einfo3 (s : State) : (setCcittWhite s).einfo3 = s.einfo3 := rfl
@[simp] theorem setCcittWhite_flt (s : State) : (setCcittWhite s).flt = s.flt := rfl
@[simp] theorem setCcittWhite_inp (s : State) : (setCcittWhite s).inp = s.inp := rfl
@[simp] theorem setCcittWhite_out (s : State) : (setCcittWhite s).out = s.out := rfl
@[simp] theorem setCcittWhite_stage (s : State) : (setCcittWhite s).stage = s.stage := rfl
@[simp] theorem setCcittWhite_cur (s : State) : (setCcittWhite s).cur = s.cur := rfl
@[simp] theorem setCcittWhite_origLen (s : State) : (setCcittWhite s).origLen = s.origLen := rfl
@[simp] theorem setCcittWhite_j (s : State) : (setCcittWhite s).j = s.j := rfl
@[simp] theorem setCcittWhite_phase (s : State) : (setCcittWhite s).phase = s.phase := rfl
@[simp] theorem setCcittWhite_eng (s : State) : (setCcittWhite s).eng = s.eng := rfl

/-! ## raise -/

@[simp] theorem raise_cfg (c : Cause) (u : Nat) (s : State) : (raise c u s).cfg = s.cfg := rfl
@[simp] theorem raise_moves (c : Cause) (u : Nat) (s : State) : (raise c u s).moves = s.moves := rfl
@[simp] theorem raise_hostData (c : Cause) (u : Nat) (s : State) : (raise c u s).hostData = s.hostData := rfl
@[simp] theorem raise_draws (c : Cause) (u : Nat) (s : State) : (raise c u s).draws = s.draws := rfl
@[simp] theorem raise_status (c : Cause) (u : Nat) (s : State) :
    (raise c u s).status =
      { s.status with
        state := .error
        eclass := causeClass c
        ecode := causeCode c
        estage := stageWord s.cfg s.stage
        efilt := BitVec.ofNat 4 u
        flateStep := if u = 0 then 0 else s.status.flateStep } := rfl
@[simp] theorem raise_inLen (c : Cause) (u : Nat) (s : State) : (raise c u s).inLen = s.inLen := rfl
@[simp] theorem raise_outLen (c : Cause) (u : Nat) (s : State) : (raise c u s).outLen = 0 := rfl
@[simp] theorem raise_desc (c : Cause) (u : Nat) (s : State) : (raise c u s).desc = s.desc := rfl
@[simp] theorem raise_einfo0 (c : Cause) (u : Nat) (s : State) :
    (raise c u s).einfo0 = BitVec.ofNat 64 (causeInfo c).1 := rfl
@[simp] theorem raise_einfo1 (c : Cause) (u : Nat) (s : State) :
    (raise c u s).einfo1 = BitVec.ofNat 64 (causeInfo c).2.1 := rfl
@[simp] theorem raise_einfo2 (c : Cause) (u : Nat) (s : State) :
    (raise c u s).einfo2 = BitVec.ofNat 64 (causeInfo c).2.2.1 := rfl
@[simp] theorem raise_einfo3 (c : Cause) (u : Nat) (s : State) :
    (raise c u s).einfo3 = BitVec.ofNat 64 (causeInfo c).2.2.2 := rfl
@[simp] theorem raise_flt (c : Cause) (u : Nat) (s : State) : (raise c u s).flt = s.flt := rfl
@[simp] theorem raise_inp (c : Cause) (u : Nat) (s : State) : (raise c u s).inp = s.inp := rfl
@[simp] theorem raise_out (c : Cause) (u : Nat) (s : State) : (raise c u s).out = s.out := rfl
@[simp] theorem raise_stage (c : Cause) (u : Nat) (s : State) : (raise c u s).stage = s.stage := rfl
@[simp] theorem raise_cur (c : Cause) (u : Nat) (s : State) : (raise c u s).cur = [] := rfl
@[simp] theorem raise_origLen (c : Cause) (u : Nat) (s : State) : (raise c u s).origLen = s.origLen := rfl
@[simp] theorem raise_j (c : Cause) (u : Nat) (s : State) : (raise c u s).j = s.j := rfl
@[simp] theorem raise_phase (c : Cause) (u : Nat) (s : State) : (raise c u s).phase = .orchestrate := rfl
@[simp] theorem raise_eng (c : Cause) (u : Nat) (s : State) : (raise c u s).eng = Engine.empty := rfl

/-! ## nextStage -/

@[simp] theorem nextStage_cfg (o : Bytes) (s : State) : (nextStage o s).cfg = s.cfg := rfl
@[simp] theorem nextStage_moves (o : Bytes) (s : State) : (nextStage o s).moves = s.moves := rfl
@[simp] theorem nextStage_hostData (o : Bytes) (s : State) : (nextStage o s).hostData = s.hostData := rfl
@[simp] theorem nextStage_draws (o : Bytes) (s : State) : (nextStage o s).draws = s.draws := rfl
@[simp] theorem nextStage_status (o : Bytes) (s : State) : (nextStage o s).status = s.status := rfl
@[simp] theorem nextStage_inLen (o : Bytes) (s : State) : (nextStage o s).inLen = s.inLen := rfl
@[simp] theorem nextStage_outLen (o : Bytes) (s : State) : (nextStage o s).outLen = s.outLen := rfl
@[simp] theorem nextStage_desc (o : Bytes) (s : State) : (nextStage o s).desc = s.desc := rfl
@[simp] theorem nextStage_einfo0 (o : Bytes) (s : State) : (nextStage o s).einfo0 = s.einfo0 := rfl
@[simp] theorem nextStage_einfo1 (o : Bytes) (s : State) : (nextStage o s).einfo1 = s.einfo1 := rfl
@[simp] theorem nextStage_einfo2 (o : Bytes) (s : State) : (nextStage o s).einfo2 = s.einfo2 := rfl
@[simp] theorem nextStage_einfo3 (o : Bytes) (s : State) : (nextStage o s).einfo3 = s.einfo3 := rfl
@[simp] theorem nextStage_flt (o : Bytes) (s : State) : (nextStage o s).flt = s.flt := rfl
@[simp] theorem nextStage_inp (o : Bytes) (s : State) : (nextStage o s).inp = s.inp := rfl
@[simp] theorem nextStage_out (o : Bytes) (s : State) : (nextStage o s).out = s.out := rfl
@[simp] theorem nextStage_stage (o : Bytes) (s : State) : (nextStage o s).stage = s.stage + 1 := rfl
@[simp] theorem nextStage_cur (o : Bytes) (s : State) : (nextStage o s).cur = o := rfl
@[simp] theorem nextStage_origLen (o : Bytes) (s : State) : (nextStage o s).origLen = s.origLen := rfl
@[simp] theorem nextStage_j (o : Bytes) (s : State) : (nextStage o s).j = s.j := rfl
@[simp] theorem nextStage_phase (o : Bytes) (s : State) : (nextStage o s).phase = .orchestrate := rfl
@[simp] theorem nextStage_eng (o : Bytes) (s : State) : (nextStage o s).eng = Engine.empty := rfl

/-! ## enterCodec -/

@[simp] theorem enterCodec_cfg (p : Phase) (s : State) : (enterCodec p s).cfg = s.cfg := rfl
@[simp] theorem enterCodec_moves (p : Phase) (s : State) : (enterCodec p s).moves = s.moves := rfl
@[simp] theorem enterCodec_hostData (p : Phase) (s : State) : (enterCodec p s).hostData = s.hostData := rfl
@[simp] theorem enterCodec_draws (p : Phase) (s : State) : (enterCodec p s).draws = s.draws := rfl
@[simp] theorem enterCodec_status (p : Phase) (s : State) : (enterCodec p s).status = s.status := rfl
@[simp] theorem enterCodec_inLen (p : Phase) (s : State) : (enterCodec p s).inLen = s.inLen := rfl
@[simp] theorem enterCodec_outLen (p : Phase) (s : State) : (enterCodec p s).outLen = s.outLen := rfl
@[simp] theorem enterCodec_desc (p : Phase) (s : State) : (enterCodec p s).desc = s.desc := rfl
@[simp] theorem enterCodec_einfo0 (p : Phase) (s : State) : (enterCodec p s).einfo0 = s.einfo0 := rfl
@[simp] theorem enterCodec_einfo1 (p : Phase) (s : State) : (enterCodec p s).einfo1 = s.einfo1 := rfl
@[simp] theorem enterCodec_einfo2 (p : Phase) (s : State) : (enterCodec p s).einfo2 = s.einfo2 := rfl
@[simp] theorem enterCodec_einfo3 (p : Phase) (s : State) : (enterCodec p s).einfo3 = s.einfo3 := rfl
@[simp] theorem enterCodec_flt (p : Phase) (s : State) : (enterCodec p s).flt = s.flt := rfl
@[simp] theorem enterCodec_inp (p : Phase) (s : State) : (enterCodec p s).inp = s.inp := rfl
@[simp] theorem enterCodec_out (p : Phase) (s : State) : (enterCodec p s).out = s.out := rfl
@[simp] theorem enterCodec_stage (p : Phase) (s : State) : (enterCodec p s).stage = s.stage := rfl
@[simp] theorem enterCodec_cur (p : Phase) (s : State) : (enterCodec p s).cur = s.cur := rfl
@[simp] theorem enterCodec_origLen (p : Phase) (s : State) : (enterCodec p s).origLen = s.origLen := rfl
@[simp] theorem enterCodec_j (p : Phase) (s : State) : (enterCodec p s).j = s.j := rfl
@[simp] theorem enterCodec_phase (p : Phase) (s : State) : (enterCodec p s).phase = p := rfl
@[simp] theorem enterCodec_eng (p : Phase) (s : State) :
    (enterCodec p s).eng = { Engine.empty with src := s.cur } := rfl

/-! ## beginRun -/

@[simp] theorem beginRun_cfg (z : Bool) (src : Bytes) (start : Nat) (s : State) :
    (beginRun z src start s).cfg = s.cfg := rfl
@[simp] theorem beginRun_moves (z : Bool) (src : Bytes) (start : Nat) (s : State) :
    (beginRun z src start s).moves = s.moves := rfl
@[simp] theorem beginRun_hostData (z : Bool) (src : Bytes) (start : Nat) (s : State) :
    (beginRun z src start s).hostData = s.hostData := rfl
@[simp] theorem beginRun_draws (z : Bool) (src : Bytes) (start : Nat) (s : State) :
    (beginRun z src start s).draws = s.draws := rfl
@[simp] theorem beginRun_status (z : Bool) (src : Bytes) (start : Nat) (s : State) :
    (beginRun z src start s).status = s.status := rfl
@[simp] theorem beginRun_inLen (z : Bool) (src : Bytes) (start : Nat) (s : State) :
    (beginRun z src start s).inLen = s.inLen := rfl
@[simp] theorem beginRun_outLen (z : Bool) (src : Bytes) (start : Nat) (s : State) :
    (beginRun z src start s).outLen = s.outLen := rfl
@[simp] theorem beginRun_desc (z : Bool) (src : Bytes) (start : Nat) (s : State) :
    (beginRun z src start s).desc = s.desc := rfl
@[simp] theorem beginRun_einfo0 (z : Bool) (src : Bytes) (start : Nat) (s : State) :
    (beginRun z src start s).einfo0 = s.einfo0 := rfl
@[simp] theorem beginRun_einfo1 (z : Bool) (src : Bytes) (start : Nat) (s : State) :
    (beginRun z src start s).einfo1 = s.einfo1 := rfl
@[simp] theorem beginRun_einfo2 (z : Bool) (src : Bytes) (start : Nat) (s : State) :
    (beginRun z src start s).einfo2 = s.einfo2 := rfl
@[simp] theorem beginRun_einfo3 (z : Bool) (src : Bytes) (start : Nat) (s : State) :
    (beginRun z src start s).einfo3 = s.einfo3 := rfl
@[simp] theorem beginRun_flt (z : Bool) (src : Bytes) (start : Nat) (s : State) :
    (beginRun z src start s).flt = s.flt := rfl
@[simp] theorem beginRun_inp (z : Bool) (src : Bytes) (start : Nat) (s : State) :
    (beginRun z src start s).inp = s.inp := rfl
@[simp] theorem beginRun_out (z : Bool) (src : Bytes) (start : Nat) (s : State) :
    (beginRun z src start s).out = s.out := rfl
@[simp] theorem beginRun_stage (z : Bool) (src : Bytes) (start : Nat) (s : State) :
    (beginRun z src start s).stage = s.stage := rfl
@[simp] theorem beginRun_cur (z : Bool) (src : Bytes) (start : Nat) (s : State) :
    (beginRun z src start s).cur = s.cur := rfl
@[simp] theorem beginRun_origLen (z : Bool) (src : Bytes) (start : Nat) (s : State) :
    (beginRun z src start s).origLen = s.origLen := rfl
@[simp] theorem beginRun_j (z : Bool) (src : Bytes) (start : Nat) (s : State) :
    (beginRun z src start s).j = s.j := rfl
@[simp] theorem beginRun_phase (z : Bool) (src : Bytes) (start : Nat) (s : State) :
    (beginRun z src start s).phase = (if z then .zlibHdr else .block) := rfl
@[simp] theorem beginRun_eng (z : Bool) (src : Bytes) (start : Nat) (s : State) :
    (beginRun z src start s).eng =
      { Engine.empty with
        src := src
        bitPos := 8 * start
        inflate := InflateRegs.init z
        ladder := s.eng.ladder } := rfl

/-! ## failStrategy -/

@[simp] theorem failStrategy_cfg (e : IStatus) (s : State) : (failStrategy e s).cfg = s.cfg := rfl
@[simp] theorem failStrategy_moves (e : IStatus) (s : State) : (failStrategy e s).moves = s.moves := rfl
@[simp] theorem failStrategy_hostData (e : IStatus) (s : State) : (failStrategy e s).hostData = s.hostData := rfl
@[simp] theorem failStrategy_draws (e : IStatus) (s : State) : (failStrategy e s).draws = s.draws := rfl
@[simp] theorem failStrategy_status (e : IStatus) (s : State) : (failStrategy e s).status = s.status := rfl
@[simp] theorem failStrategy_inLen (e : IStatus) (s : State) : (failStrategy e s).inLen = s.inLen := rfl
@[simp] theorem failStrategy_outLen (e : IStatus) (s : State) : (failStrategy e s).outLen = s.outLen := rfl
@[simp] theorem failStrategy_desc (e : IStatus) (s : State) : (failStrategy e s).desc = s.desc := rfl
@[simp] theorem failStrategy_einfo0 (e : IStatus) (s : State) : (failStrategy e s).einfo0 = s.einfo0 := rfl
@[simp] theorem failStrategy_einfo1 (e : IStatus) (s : State) : (failStrategy e s).einfo1 = s.einfo1 := rfl
@[simp] theorem failStrategy_einfo2 (e : IStatus) (s : State) : (failStrategy e s).einfo2 = s.einfo2 := rfl
@[simp] theorem failStrategy_einfo3 (e : IStatus) (s : State) : (failStrategy e s).einfo3 = s.einfo3 := rfl
@[simp] theorem failStrategy_flt (e : IStatus) (s : State) : (failStrategy e s).flt = s.flt := rfl
@[simp] theorem failStrategy_inp (e : IStatus) (s : State) : (failStrategy e s).inp = s.inp := rfl
@[simp] theorem failStrategy_out (e : IStatus) (s : State) : (failStrategy e s).out = s.out := rfl
@[simp] theorem failStrategy_stage (e : IStatus) (s : State) : (failStrategy e s).stage = s.stage := rfl
@[simp] theorem failStrategy_cur (e : IStatus) (s : State) : (failStrategy e s).cur = s.cur := rfl
@[simp] theorem failStrategy_origLen (e : IStatus) (s : State) : (failStrategy e s).origLen = s.origLen := rfl
@[simp] theorem failStrategy_j (e : IStatus) (s : State) : (failStrategy e s).j = s.j := rfl
@[simp] theorem failStrategy_phase (e : IStatus) (s : State) : (failStrategy e s).phase = .ladder := rfl
@[simp] theorem failStrategy_eng (e : IStatus) (s : State) :
    (failStrategy e s).eng =
      { Engine.empty with
        ladder :=
          { step := s.eng.ladder.step + 1,
            off := s.eng.ladder.off,
            e1 := if s.eng.ladder.step = 1 then e else s.eng.ladder.e1,
            e2 := if s.eng.ladder.step = 2 then e else s.eng.ladder.e2 } } := rfl

/-! ## finishJob -/

@[simp] theorem finishJob_cfg (r : Bytes) (s : State) : (finishJob r s).cfg = s.cfg := rfl
@[simp] theorem finishJob_moves (r : Bytes) (s : State) : (finishJob r s).moves = s.moves := rfl
@[simp] theorem finishJob_hostData (r : Bytes) (s : State) : (finishJob r s).hostData = s.hostData := rfl
@[simp] theorem finishJob_draws (r : Bytes) (s : State) : (finishJob r s).draws = s.draws := rfl
@[simp] theorem finishJob_status (r : Bytes) (s : State) :
    (finishJob r s).status = { s.status with state := .done } := rfl
@[simp] theorem finishJob_inLen (r : Bytes) (s : State) : (finishJob r s).inLen = s.inLen := rfl
@[simp] theorem finishJob_outLen (r : Bytes) (s : State) : (finishJob r s).outLen = lenWord s.cfg r.length := rfl
@[simp] theorem finishJob_desc (r : Bytes) (s : State) : (finishJob r s).desc = s.desc := rfl
@[simp] theorem finishJob_einfo0 (r : Bytes) (s : State) : (finishJob r s).einfo0 = s.einfo0 := rfl
@[simp] theorem finishJob_einfo1 (r : Bytes) (s : State) : (finishJob r s).einfo1 = s.einfo1 := rfl
@[simp] theorem finishJob_einfo2 (r : Bytes) (s : State) : (finishJob r s).einfo2 = s.einfo2 := rfl
@[simp] theorem finishJob_einfo3 (r : Bytes) (s : State) : (finishJob r s).einfo3 = s.einfo3 := rfl
@[simp] theorem finishJob_flt (r : Bytes) (s : State) : (finishJob r s).flt = s.flt := rfl
@[simp] theorem finishJob_inp (r : Bytes) (s : State) : (finishJob r s).inp = s.inp := rfl
@[simp] theorem finishJob_out (r : Bytes) (s : State) : (finishJob r s).out = writeBytes .out s.out 0 r := rfl
@[simp] theorem finishJob_stage (r : Bytes) (s : State) : (finishJob r s).stage = s.stage := rfl
@[simp] theorem finishJob_cur (r : Bytes) (s : State) : (finishJob r s).cur = s.cur := rfl
@[simp] theorem finishJob_origLen (r : Bytes) (s : State) : (finishJob r s).origLen = s.origLen := rfl
@[simp] theorem finishJob_j (r : Bytes) (s : State) : (finishJob r s).j = s.j := rfl
@[simp] theorem finishJob_phase (r : Bytes) (s : State) : (finishJob r s).phase = .orchestrate := rfl
@[simp] theorem finishJob_eng (r : Bytes) (s : State) : (finishJob r s).eng = Engine.empty := rfl

/-! ## makeUp -/

@[simp] theorem makeUp_cfg (n : Nat) (s : State) : (makeUp n s).cfg = s.cfg := rfl
@[simp] theorem makeUp_moves (n : Nat) (s : State) : (makeUp n s).moves = s.moves := rfl
@[simp] theorem makeUp_hostData (n : Nat) (s : State) : (makeUp n s).hostData = s.hostData := rfl
@[simp] theorem makeUp_draws (n : Nat) (s : State) : (makeUp n s).draws = s.draws := rfl
@[simp] theorem makeUp_status (n : Nat) (s : State) : (makeUp n s).status = s.status := rfl
@[simp] theorem makeUp_inLen (n : Nat) (s : State) : (makeUp n s).inLen = s.inLen := rfl
@[simp] theorem makeUp_outLen (n : Nat) (s : State) : (makeUp n s).outLen = s.outLen := rfl
@[simp] theorem makeUp_desc (n : Nat) (s : State) : (makeUp n s).desc = s.desc := rfl
@[simp] theorem makeUp_einfo0 (n : Nat) (s : State) : (makeUp n s).einfo0 = s.einfo0 := rfl
@[simp] theorem makeUp_einfo1 (n : Nat) (s : State) : (makeUp n s).einfo1 = s.einfo1 := rfl
@[simp] theorem makeUp_einfo2 (n : Nat) (s : State) : (makeUp n s).einfo2 = s.einfo2 := rfl
@[simp] theorem makeUp_einfo3 (n : Nat) (s : State) : (makeUp n s).einfo3 = s.einfo3 := rfl
@[simp] theorem makeUp_flt (n : Nat) (s : State) : (makeUp n s).flt = s.flt := rfl
@[simp] theorem makeUp_inp (n : Nat) (s : State) : (makeUp n s).inp = s.inp := rfl
@[simp] theorem makeUp_out (n : Nat) (s : State) : (makeUp n s).out = s.out := rfl
@[simp] theorem makeUp_stage (n : Nat) (s : State) : (makeUp n s).stage = s.stage := rfl
@[simp] theorem makeUp_cur (n : Nat) (s : State) : (makeUp n s).cur = s.cur := rfl
@[simp] theorem makeUp_origLen (n : Nat) (s : State) : (makeUp n s).origLen = s.origLen := rfl
@[simp] theorem makeUp_j (n : Nat) (s : State) : (makeUp n s).j = s.j := rfl
@[simp] theorem makeUp_phase (n : Nat) (s : State) : (makeUp n s).phase = s.phase := rfl
@[simp] theorem makeUp_eng (n : Nat) (s : State) :
    (makeUp n s).eng = { s.eng with fax := { s.eng.fax with total := s.eng.fax.total + n } } := rfl

/-! ## beginRow1D -/

@[simp] theorem beginRow1D_cfg (s : State) : (beginRow1D s).cfg = s.cfg := rfl
@[simp] theorem beginRow1D_moves (s : State) : (beginRow1D s).moves = s.moves := rfl
@[simp] theorem beginRow1D_hostData (s : State) : (beginRow1D s).hostData = s.hostData := rfl
@[simp] theorem beginRow1D_draws (s : State) : (beginRow1D s).draws = s.draws := rfl
@[simp] theorem beginRow1D_status (s : State) : (beginRow1D s).status = s.status := rfl
@[simp] theorem beginRow1D_inLen (s : State) : (beginRow1D s).inLen = s.inLen := rfl
@[simp] theorem beginRow1D_outLen (s : State) : (beginRow1D s).outLen = s.outLen := rfl
@[simp] theorem beginRow1D_desc (s : State) : (beginRow1D s).desc = s.desc := rfl
@[simp] theorem beginRow1D_einfo0 (s : State) : (beginRow1D s).einfo0 = s.einfo0 := rfl
@[simp] theorem beginRow1D_einfo1 (s : State) : (beginRow1D s).einfo1 = s.einfo1 := rfl
@[simp] theorem beginRow1D_einfo2 (s : State) : (beginRow1D s).einfo2 = s.einfo2 := rfl
@[simp] theorem beginRow1D_einfo3 (s : State) : (beginRow1D s).einfo3 = s.einfo3 := rfl
@[simp] theorem beginRow1D_flt (s : State) : (beginRow1D s).flt = s.flt := rfl
@[simp] theorem beginRow1D_inp (s : State) : (beginRow1D s).inp = s.inp := rfl
@[simp] theorem beginRow1D_out (s : State) : (beginRow1D s).out = s.out := rfl
@[simp] theorem beginRow1D_stage (s : State) : (beginRow1D s).stage = s.stage := rfl
@[simp] theorem beginRow1D_cur (s : State) : (beginRow1D s).cur = s.cur := rfl
@[simp] theorem beginRow1D_origLen (s : State) : (beginRow1D s).origLen = s.origLen := rfl
@[simp] theorem beginRow1D_j (s : State) : (beginRow1D s).j = s.j := rfl
@[simp] theorem beginRow1D_phase (s : State) : (beginRow1D s).phase = .faxRun := rfl
@[simp] theorem beginRow1D_eng (s : State) :
    (beginRow1D s).eng =
      { s.eng with
        fax := { s.eng.fax with t := [], pos := 0, colour := .white, total := 0, use := .row1d } } := rfl

/-! ## beginRow2D -/

@[simp] theorem beginRow2D_cfg (s : State) : (beginRow2D s).cfg = s.cfg := rfl
@[simp] theorem beginRow2D_moves (s : State) : (beginRow2D s).moves = s.moves := rfl
@[simp] theorem beginRow2D_hostData (s : State) : (beginRow2D s).hostData = s.hostData := rfl
@[simp] theorem beginRow2D_draws (s : State) : (beginRow2D s).draws = s.draws := rfl
@[simp] theorem beginRow2D_status (s : State) : (beginRow2D s).status = s.status := rfl
@[simp] theorem beginRow2D_inLen (s : State) : (beginRow2D s).inLen = s.inLen := rfl
@[simp] theorem beginRow2D_outLen (s : State) : (beginRow2D s).outLen = s.outLen := rfl
@[simp] theorem beginRow2D_desc (s : State) : (beginRow2D s).desc = s.desc := rfl
@[simp] theorem beginRow2D_einfo0 (s : State) : (beginRow2D s).einfo0 = s.einfo0 := rfl
@[simp] theorem beginRow2D_einfo1 (s : State) : (beginRow2D s).einfo1 = s.einfo1 := rfl
@[simp] theorem beginRow2D_einfo2 (s : State) : (beginRow2D s).einfo2 = s.einfo2 := rfl
@[simp] theorem beginRow2D_einfo3 (s : State) : (beginRow2D s).einfo3 = s.einfo3 := rfl
@[simp] theorem beginRow2D_flt (s : State) : (beginRow2D s).flt = s.flt := rfl
@[simp] theorem beginRow2D_inp (s : State) : (beginRow2D s).inp = s.inp := rfl
@[simp] theorem beginRow2D_out (s : State) : (beginRow2D s).out = s.out := rfl
@[simp] theorem beginRow2D_stage (s : State) : (beginRow2D s).stage = s.stage := rfl
@[simp] theorem beginRow2D_cur (s : State) : (beginRow2D s).cur = s.cur := rfl
@[simp] theorem beginRow2D_origLen (s : State) : (beginRow2D s).origLen = s.origLen := rfl
@[simp] theorem beginRow2D_j (s : State) : (beginRow2D s).j = s.j := rfl
@[simp] theorem beginRow2D_phase (s : State) : (beginRow2D s).phase = .faxMode := rfl
@[simp] theorem beginRow2D_eng (s : State) :
    (beginRow2D s).eng = { s.eng with fax := { s.eng.fax with t := [], a0 := -1, colour := .white } } := rfl

/-! ## rowDone -/

@[simp] theorem rowDone_cfg (t : List Nat) (s : State) : (rowDone t s).cfg = s.cfg := rfl
@[simp] theorem rowDone_moves (t : List Nat) (s : State) : (rowDone t s).moves = s.moves := rfl
@[simp] theorem rowDone_hostData (t : List Nat) (s : State) : (rowDone t s).hostData = s.hostData := rfl
@[simp] theorem rowDone_draws (t : List Nat) (s : State) : (rowDone t s).draws = s.draws := rfl
@[simp] theorem rowDone_status (t : List Nat) (s : State) : (rowDone t s).status = s.status := rfl
@[simp] theorem rowDone_inLen (t : List Nat) (s : State) : (rowDone t s).inLen = s.inLen := rfl
@[simp] theorem rowDone_outLen (t : List Nat) (s : State) : (rowDone t s).outLen = s.outLen := rfl
@[simp] theorem rowDone_desc (t : List Nat) (s : State) : (rowDone t s).desc = s.desc := rfl
@[simp] theorem rowDone_einfo0 (t : List Nat) (s : State) : (rowDone t s).einfo0 = s.einfo0 := rfl
@[simp] theorem rowDone_einfo1 (t : List Nat) (s : State) : (rowDone t s).einfo1 = s.einfo1 := rfl
@[simp] theorem rowDone_einfo2 (t : List Nat) (s : State) : (rowDone t s).einfo2 = s.einfo2 := rfl
@[simp] theorem rowDone_einfo3 (t : List Nat) (s : State) : (rowDone t s).einfo3 = s.einfo3 := rfl
@[simp] theorem rowDone_flt (t : List Nat) (s : State) : (rowDone t s).flt = s.flt := rfl
@[simp] theorem rowDone_inp (t : List Nat) (s : State) : (rowDone t s).inp = s.inp := rfl
@[simp] theorem rowDone_out (t : List Nat) (s : State) : (rowDone t s).out = s.out := rfl
@[simp] theorem rowDone_stage (t : List Nat) (s : State) : (rowDone t s).stage = s.stage := rfl
@[simp] theorem rowDone_cur (t : List Nat) (s : State) : (rowDone t s).cur = s.cur := rfl
@[simp] theorem rowDone_origLen (t : List Nat) (s : State) : (rowDone t s).origLen = s.origLen := rfl
@[simp] theorem rowDone_j (t : List Nat) (s : State) : (rowDone t s).j = s.j := rfl
@[simp] theorem rowDone_phase (t : List Nat) (s : State) : (rowDone t s).phase = .faxRowStart := rfl
@[simp] theorem rowDone_eng (t : List Nat) (s : State) :
    (rowDone t s).eng =
      { s.eng with
        fax := { s.eng.fax with rowsDone := s.eng.fax.rowsDone ++ [t], ref := t } } := rfl

end Sys2Proof.Machine
end

