-- ==== Sys2Proof/Tests/Slice0.lean ====
section
/-! SUPPORT. The model's own tests. Expected values come from the tables of spec/ or from a hand calculation by its rules.
The last part holds the witnesses: for each statement with hypotheses, states and operands that meet them, clause by
clause. -/

namespace Sys2Proof.Tests.Slice0

open Sys2Proof Sys2Proof.Machine

-- One proof at a time: each is checked by the kernel where it stands.
set_option Elab.async false

/-! ## Helpers -/

/-- Does each bit string decode to its instruction, with all its bits used? -/
def decodes (f : Format) (rows : List (List Bool × Instr)) : Bool :=
  rows.all fun r => decide (decode f r.1 = .instr r.2 r.1.length)

/-- The state after an outcome that is a next state. -/
def after (o : Host.Outcome State Fault Refusal) : State :=
  match o with
  | .next s => s
  | _ => State.reset

/-- A running job at a place of the sequencer. -/
def at' (p : Phase) (e : Engine) : State :=
  { State.reset with status := { Status.zero with state := .busy }, phase := p, eng := e }

/-- The engine over an input. -/
def src (b : Bytes) : Engine := { Engine.empty with src := b }

/-- The same job with another descriptor. -/
def withDesc (d : Descriptor) (s : State) : State := { s with j := { s.j with desc := d } }

/-- A DECODE_STREAM_OPT job with limits. -/
def limited (ratio : BitVec 32) (size : Word) (s : State) : State :=
  { s with
    j := { s.j with
      op := .decodeStreamOpt, desc := { s.j.desc with secValid := 1, maxRatio := ratio, maxSize := size } } }

/-- A predictor run over one-byte pixels. -/
def rows (columns colors : BitVec 32) (p : Phase) (e : Engine) : State :=
  withDesc { Descriptor.reset with columns := columns, colors := colors } (at' p e)

/-- A CCITT_DECODE job at a place of the fax engine. -/
def fax (columns k : BitVec 32) (flags : BitVec 5) (p : Phase) (f : FaxRegs) : State :=
  { at' p { Engine.empty with fax := f } with
    j := ⟨.ccittDecode, [], [], { Descriptor.reset with cColumns := columns, cK := k, cFlags := flags }⟩ }

/-! ## Ill-formed instructions -/

theorem test_wf_refuses_short_slot : (Instr.fnameUnknown [0x41]).wf = false := by decide

/-- The slot of FlateDecode is no unknown name (R92). -/
theorem test_wf_refuses_known_name :
    (Instr.fnameUnknown ([0x46, 0x6C, 0x61, 0x74, 0x65, 0x44, 0x65, 0x63, 0x6F, 0x64, 0x65] ++
      List.replicate 21 0)).wf = false := by decide

theorem test_wf_refuses_legal_selector : (Instr.predIllegal 15).wf = false := by decide
theorem test_wf_refuses_repeat_of_eod : (Instr.rlRepeat 0).wf = false := by decide
theorem test_wf_refuses_literal_as_reference : (Instr.lzwRef 257).wf = false := by decide
theorem test_wf_refuses_literal_as_illegal : (Instr.lzwIllegal 255).wf = false := by decide
theorem test_wf_refuses_g_as_hex_digit : (Instr.hexDigit 0x67).wf = false := by decide
theorem test_wf_refuses_f_as_no_hex_digit : (Instr.hexIllegal 0x66).wf = false := by decide
theorem test_wf_refuses_v_as_a85_digit : (Instr.a85Digit 0x76).wf = false := by decide
theorem test_wf_refuses_z_as_illegal : (Instr.a85Illegal 0x7A).wf = false := by decide
theorem test_wf_refuses_known_tag : (Instr.pngTagIllegal 4).wf = false := by decide

/-! ## Decoding: words written from the spec's encodings -/

/-- R90: START is bit 0, ACK bit 1, OP bits 5:4; the other bits are ignored. -/
theorem test_commands :
    decodes .cmd [(bitsL 64 0x01, .decodeStream), (bitsL 64 0x11, .decodeStreamOpt), (bitsL 64 0x21, .ccittDecode),
      (bitsL 64 0x31, .ccittGray), (bitsL 64 0x02, .ack), (bitsL 64 0x03, .decodeStream),
      (bitsL 64 0xFFFFFFFFFFFFFFFF, .ccittGray), (bitsL 64 0xFFFFFFFFFFFFFFFE, .ack)] = true := by decide +kernel

theorem test_no_command : decode .cmd (bitsL 64 0xFFFFFFFFFFFFFFFC) = .reject .noCommand := by decide +kernel

/-- The eight names of R91; a name that differs in case is another name (R92). -/
theorem test_filter_names :
    decodes .fname
      [(streamL ([0x46, 0x6C, 0x61, 0x74, 0x65, 0x44, 0x65, 0x63, 0x6F, 0x64, 0x65] ++ List.replicate 21 0), .flateDecode),
       (streamL ([0x41, 0x53, 0x43, 0x49, 0x49, 0x48, 0x65, 0x78, 0x44, 0x65, 0x63, 0x6F, 0x64, 0x65] ++
          List.replicate 18 0), .asciiHexDecode),
       (streamL ([0x41, 0x53, 0x43, 0x49, 0x49, 0x38, 0x35, 0x44, 0x65, 0x63, 0x6F, 0x64, 0x65] ++
          List.replicate 19 0), .ascii85Decode),
       (streamL ([0x4C, 0x5A, 0x57, 0x44, 0x65, 0x63, 0x6F, 0x64, 0x65] ++ List.replicate 23 0), .lzwDecode),
       (streamL ([0x52, 0x75, 0x6E, 0x4C, 0x65, 0x6E, 0x67, 0x74, 0x68, 0x44, 0x65, 0x63, 0x6F, 0x64, 0x65] ++
          List.replicate 17 0), .runLengthDecode),
       (streamL ([0x44, 0x43, 0x54, 0x44, 0x65, 0x63, 0x6F, 0x64, 0x65] ++ List.replicate 23 0), .dctDecode),
       (streamL ([0x43, 0x43, 0x49, 0x54, 0x54, 0x46, 0x61, 0x78, 0x44, 0x65, 0x63, 0x6F, 0x64, 0x65] ++
          List.replicate 18 0), .ccittFaxDecode),
       (streamL ([0x4A, 0x42, 0x49, 0x47, 0x32, 0x44, 0x65, 0x63, 0x6F, 0x64, 0x65] ++ List.replicate 21 0), .jbig2Decode),
       (streamL ([0x6C, 0x5A, 0x57, 0x44, 0x65, 0x63, 0x6F, 0x64, 0x65] ++ List.replicate 23 0),
          .fnameUnknown ([0x6C, 0x5A, 0x57, 0x44, 0x65, 0x63, 0x6F, 0x64, 0x65] ++ List.replicate 23 0))] = true := by
  decide +kernel

/-- R93. -/
theorem test_predictor_selectors :
    decodes .pred [(bitsL 32 1, .predNone), (bitsL 32 2, .predTiff), (bitsL 32 10, .predPngNone),
      (bitsL 32 11, .predPngSub), (bitsL 32 12, .predPngUp), (bitsL 32 13, .predPngAvg), (bitsL 32 14, .predPngPaeth),
      (bitsL 32 15, .predPngOpt), (bitsL 32 0, .predIllegal 0), (bitsL 32 3, .predIllegal 3),
      (bitsL 32 0x10002, .predIllegal 0x10002)] = true := by decide +kernel

/-- R94. -/
theorem test_strategies :
    (List.range' 1 7).map (fun n => decode (.strategy n) []) =
      [.instr .flateS1 0, .instr .flateS2 0, .instr .flateS3 0, .instr .flateS4 0, .instr .flateS5 0,
       .instr .flateS6 0, .instr .flateS7 0] := by decide

/-- R95: CMF first; ADLER32 big-endian. -/
theorem test_zlib_wrapper :
    decodes .zlibHdr [(streamL [0x78, 0x9C], .zlibHdr 0x78 0x9C)] = true ∧
      decodes .zlibTrailer [(streamL [0x02, 0x4D, 0x01, 0x27], .zlibTrailer 0x024D0127)] = true := by decide +kernel

/-- R96: BFINAL, then the BTYPE bits in stream order. -/
theorem test_block_headers :
    decodes .deflateBlk [([true, false, false], .blkStored true), ([false, true, false], .blkFixed false),
      ([false, false, true], .blkDynamic false), ([true, true, true], .blkReserved true)] = true := by decide

/-- R97: HLIT 29, HDIST 1, HCLEN 14. -/
theorem test_dynamic_header :
    decodes .dynHdr [(bitsL 5 29 ++ bitsL 5 1 ++ bitsL 4 14, .dynHdr 29 1 14)] = true := by decide

/-- R97, R202: four code-length symbols with codes of two bits; after them the extra bits. -/
theorem test_code_length_codes :
    decodes (.clSym (canonicalTable ([0, 0, 0, 0, 0, 0, 0, 2, 0, 0, 0, 0, 0, 0, 0, 0, 2, 2, 2])) false)
      [(bitsM 2 0b00, .clLen 7), (bitsM 2 0b01 ++ bitsL 2 1, .clCopy 1), (bitsM 2 0b10 ++ bitsL 3 4, .clZero3 4),
       (bitsM 2 0b11 ++ bitsL 7 1, .clZero11 1)] = true := by decide +kernel

/-- The fixed literal/length codes of R98 with the extra bits of R203, the first of them 1. -/
theorem test_literal_length_codes :
    decodes (.llSym fixedLl)
      ([(bitsM 8 0b00110000, .lit 0), (bitsM 8 0b10111111, .lit 143), (bitsM 9 0b110010000, .lit 144),
       (bitsM 9 0b111111111, .lit 255), (bitsM 7 0b0000000, .eob), (bitsM 7 0b0000001, .len257),
       (bitsM 7 0b0000010, .len258), (bitsM 7 0b0000011, .len259), (bitsM 7 0b0000100, .len260),
       (bitsM 7 0b0000101, .len261), (bitsM 7 0b0000110, .len262), (bitsM 7 0b0000111, .len263),
       (bitsM 7 0b0001000, .len264), (bitsM 7 0b0001001 ++ bitsL 1 1, .len265 1),
       (bitsM 7 0b0001010 ++ bitsL 1 1, .len266 1), (bitsM 7 0b0001011 ++ bitsL 1 1, .len267 1),
       (bitsM 7 0b0001100 ++ bitsL 1 1, .len268 1), (bitsM 7 0b0001101 ++ bitsL 2 1, .len269 1),
       (bitsM 7 0b0001110 ++ bitsL 2 1, .len270 1), (bitsM 7 0b0001111 ++ bitsL 2 1, .len271 1),
       (bitsM 7 0b0010000 ++ bitsL 2 1, .len272 1), (bitsM 7 0b0010001 ++ bitsL 3 1, .len273 1),
       (bitsM 7 0b0010010 ++ bitsL 3 1, .len274 1), (bitsM 7 0b0010011 ++ bitsL 3 1, .len275 1),
       (bitsM 7 0b0010100 ++ bitsL 3 1, .len276 1), (bitsM 7 0b0010101 ++ bitsL 4 1, .len277 1),
       (bitsM 7 0b0010110 ++ bitsL 4 1, .len278 1), (bitsM 7 0b0010111 ++ bitsL 4 1, .len279 1),
       (bitsM 8 0b11000000 ++ bitsL 4 1, .len280 1), (bitsM 8 0b11000001 ++ bitsL 5 1, .len281 1),
       (bitsM 8 0b11000010 ++ bitsL 5 1, .len282 1), (bitsM 8 0b11000011 ++ bitsL 5 1, .len283 1),
       (bitsM 8 0b11000100 ++ bitsL 5 1, .len284 1), (bitsM 8 0b11000101, .len285),
       (bitsM 8 0b11000110, .llIllegal 0), (bitsM 8 0b11000111, .llIllegal 1)]) = true := by decide +kernel

/-- The fixed distance codes of R98 with the extra bits of R203, the first of them 1. -/
theorem test_distance_codes :
    decodes (.dSym fixedDd)
      ([(bitsM 5 0b00000, .dist0), (bitsM 5 0b00001, .dist1), (bitsM 5 0b00010, .dist2),
       (bitsM 5 0b00011, .dist3), (bitsM 5 0b00100 ++ bitsL 1 1, .dist4 1),
       (bitsM 5 0b00101 ++ bitsL 1 1, .dist5 1), (bitsM 5 0b00110 ++ bitsL 2 1, .dist6 1),
       (bitsM 5 0b00111 ++ bitsL 2 1, .dist7 1), (bitsM 5 0b01000 ++ bitsL 3 1, .dist8 1),
       (bitsM 5 0b01001 ++ bitsL 3 1, .dist9 1), (bitsM 5 0b01010 ++ bitsL 4 1, .dist10 1),
       (bitsM 5 0b01011 ++ bitsL 4 1, .dist11 1), (bitsM 5 0b01100 ++ bitsL 5 1, .dist12 1),
       (bitsM 5 0b01101 ++ bitsL 5 1, .dist13 1), (bitsM 5 0b01110 ++ bitsL 6 1, .dist14 1),
       (bitsM 5 0b01111 ++ bitsL 6 1, .dist15 1), (bitsM 5 0b10000 ++ bitsL 7 1, .dist16 1),
       (bitsM 5 0b10001 ++ bitsL 7 1, .dist17 1), (bitsM 5 0b10010 ++ bitsL 8 1, .dist18 1),
       (bitsM 5 0b10011 ++ bitsL 8 1, .dist19 1), (bitsM 5 0b10100 ++ bitsL 9 1, .dist20 1),
       (bitsM 5 0b10101 ++ bitsL 9 1, .dist21 1), (bitsM 5 0b10110 ++ bitsL 10 1, .dist22 1),
       (bitsM 5 0b10111 ++ bitsL 10 1, .dist23 1), (bitsM 5 0b11000 ++ bitsL 11 1, .dist24 1),
       (bitsM 5 0b11001 ++ bitsL 11 1, .dist25 1), (bitsM 5 0b11010 ++ bitsL 12 1, .dist26 1),
       (bitsM 5 0b11011 ++ bitsL 12 1, .dist27 1), (bitsM 5 0b11100 ++ bitsL 13 1, .dist28 1),
       (bitsM 5 0b11101 ++ bitsL 13 1, .dist29 1), (bitsM 5 0b11110, .dIllegal 0),
       (bitsM 5 0b11111, .dIllegal 1)]) = true := by decide +kernel

/-- R99 at NEXT_CODE 260 with PREV present; at 258 without PREV the code 258 is illegal. -/
theorem test_lzw_codes :
    decodes (.lzwCode 9 260 true) [(bitsM 9 0x41, .lzwLit 0x41), (bitsM 9 256, .lzwClear), (bitsM 9 257, .lzwEod),
        (bitsM 9 259, .lzwRef 259), (bitsM 9 260, .lzwKwkwk), (bitsM 9 261, .lzwIllegal 261)] = true ∧
      decodes (.lzwCode 9 258 false) [(bitsM 9 258, .lzwIllegal 258)] = true := by decide +kernel

/-- R100: the boundary length bytes. -/
theorem test_run_length_bytes :
    decodes .rlByte [(bitsM 8 0, .rlLiteral 0), (bitsM 8 127, .rlLiteral 127), (bitsM 8 128, .rlEod),
      (bitsM 8 129, .rlRepeat 1), (bitsM 8 255, .rlRepeat 127)] = true := by decide +kernel

/-- R101: whitespace, digits of each range, the terminator in its place and out of it. -/
theorem test_hex_characters :
    decodes (.hexChar Config.default.ws true) [(bitsM 8 0x20, .hexWs 0x20), (bitsM 8 0x39, .hexDigit 0x39),
        (bitsM 8 0x46, .hexDigit 0x46), (bitsM 8 0x61, .hexDigit 0x61), (bitsM 8 0x3E, .hexEod),
        (bitsM 8 0x47, .hexIllegal 0x47), (bitsM 8 0x00, .hexIllegal 0x00)] = true ∧
      decodes (.hexChar Config.default.ws false) [(bitsM 8 0x3E, .hexIllegal 0x3E)] = true := by decide +kernel

/-- R102. -/
theorem test_ascii85_characters :
    decodes (.a85Char Config.default.ws) [(bitsM 8 0x0A, .a85Ws 0x0A), (bitsM 8 0x21, .a85Digit 0x21),
      (bitsM 8 0x75, .a85Digit 0x75), (bitsM 8 0x7A, .a85Z), (bitsM 8 0x7E, .a85Term),
      (bitsM 8 0x76, .a85Illegal 0x76)] = true := by decide +kernel

/-- R103; an implied tag stands for any tag byte (R328). -/
theorem test_png_tags :
    decodes (.pngRow none) [(bitsM 8 0, .pngNone), (bitsM 8 1, .pngSub), (bitsM 8 2, .pngUp), (bitsM 8 3, .pngAverage),
        (bitsM 8 4, .pngPaeth), (bitsM 8 5, .pngTagIllegal 5)] = true ∧
      decodes (.pngRow (some 2)) [(bitsM 8 0xFF, .pngUp)] = true ∧ decodes .tiffRow [([], .tiffRow)] = true := by
  decide +kernel

/-- R104; an EOL with four fill bits where fill is allowed (R386). -/
theorem test_fax_modes :
    decodes .faxMode [(bitsM 1 0b1, .faxV0), (bitsM 3 0b011, .faxVr1), (bitsM 6 0b000011, .faxVr2),
        (bitsM 7 0b0000011, .faxVr3), (bitsM 3 0b010, .faxVl1), (bitsM 6 0b000010, .faxVl2),
        (bitsM 7 0b0000010, .faxVl3), (bitsM 3 0b001, .faxHoriz), (bitsM 4 0b0001, .faxPass),
        (bitsM 7 0b0000000, .faxModeIllegal 0), (bitsM 7 0b0000001, .faxModeIllegal 1)] = true ∧
      decodes (.faxEol true) [(bitsM 12 1, .faxEol 0)] = true ∧
      decodes (.faxEol false) [(bitsM 16 1, .faxEol 4)] = true ∧
      decode (.faxEol true) (bitsM 16 1) = .reject .noCode := by decide +kernel

/-- The white terminating codes of R387, first half. -/
theorem test_white_terminating_codes_0_31 :
    decodes (.faxRun .white)
      ([(bitsM 8 0b00110101, .wT0), (bitsM 6 0b000111, .wT1), (bitsM 4 0b0111, .wT2), (bitsM 4 0b1000, .wT3),
       (bitsM 4 0b1011, .wT4), (bitsM 4 0b1100, .wT5), (bitsM 4 0b1110, .wT6), (bitsM 4 0b1111, .wT7),
       (bitsM 5 0b10011, .wT8), (bitsM 5 0b10100, .wT9), (bitsM 5 0b00111, .wT10), (bitsM 5 0b01000, .wT11),
       (bitsM 6 0b001000, .wT12), (bitsM 6 0b000011, .wT13), (bitsM 6 0b110100, .wT14),
       (bitsM 6 0b110101, .wT15), (bitsM 6 0b101010, .wT16), (bitsM 6 0b101011, .wT17),
       (bitsM 7 0b0100111, .wT18), (bitsM 7 0b0001100, .wT19), (bitsM 7 0b0001000, .wT20),
       (bitsM 7 0b0010111, .wT21), (bitsM 7 0b0000011, .wT22), (bitsM 7 0b0000100, .wT23),
       (bitsM 7 0b0101000, .wT24), (bitsM 7 0b0101011, .wT25), (bitsM 7 0b0010011, .wT26),
       (bitsM 7 0b0100100, .wT27), (bitsM 7 0b0011000, .wT28), (bitsM 8 0b00000010, .wT29),
       (bitsM 8 0b00000011, .wT30), (bitsM 8 0b00011010, .wT31)]) = true := by decide +kernel

/-- The white terminating codes of R387, second half. -/
theorem test_white_terminating_codes_32_63 :
    decodes (.faxRun .white)
      ([(bitsM 8 0b00011011, .wT32), (bitsM 8 0b00010010, .wT33), (bitsM 8 0b00010011, .wT34),
       (bitsM 8 0b00010100, .wT35), (bitsM 8 0b00010101, .wT36), (bitsM 8 0b00010110, .wT37),
       (bitsM 8 0b00010111, .wT38), (bitsM 8 0b00101000, .wT39), (bitsM 8 0b00101001, .wT40),
       (bitsM 8 0b00101010, .wT41), (bitsM 8 0b00101011, .wT42), (bitsM 8 0b00101100, .wT43),
       (bitsM 8 0b00101101, .wT44), (bitsM 8 0b00000100, .wT45), (bitsM 8 0b00000101, .wT46),
       (bitsM 8 0b00001010, .wT47), (bitsM 8 0b00001011, .wT48), (bitsM 8 0b01010010, .wT49),
       (bitsM 8 0b01010011, .wT50), (bitsM 8 0b01010100, .wT51), (bitsM 8 0b01010101, .wT52),
       (bitsM 8 0b00100100, .wT53), (bitsM 8 0b00100101, .wT54), (bitsM 8 0b01011000, .wT55),
       (bitsM 8 0b01011001, .wT56), (bitsM 8 0b01011010, .wT57), (bitsM 8 0b01011011, .wT58),
       (bitsM 8 0b01001010, .wT59), (bitsM 8 0b01001011, .wT60), (bitsM 8 0b00110010, .wT61),
       (bitsM 8 0b00110011, .wT62), (bitsM 8 0b00110100, .wT63)]) = true := by decide +kernel

/-- The white make-up codes of R388 and the common ones of R390. -/
theorem test_white_make_up_codes :
    decodes (.faxRun .white)
      ([(bitsM 5 0b11011, .wM64), (bitsM 5 0b10010, .wM128), (bitsM 6 0b010111, .wM192),
       (bitsM 7 0b0110111, .wM256), (bitsM 8 0b00110110, .wM320), (bitsM 8 0b00110111, .wM384),
       (bitsM 8 0b01100100, .wM448), (bitsM 8 0b01100101, .wM512), (bitsM 8 0b01101000, .wM576),
       (bitsM 8 0b01100111, .wM640), (bitsM 9 0b011001100, .wM704), (bitsM 9 0b011001101, .wM768),
       (bitsM 9 0b011010010, .wM832), (bitsM 9 0b011010011, .wM896), (bitsM 9 0b011010100, .wM960),
       (bitsM 9 0b011010101, .wM1024), (bitsM 9 0b011010110, .wM1088), (bitsM 9 0b011010111, .wM1152),
       (bitsM 9 0b011011000, .wM1216), (bitsM 9 0b011011001, .wM1280), (bitsM 9 0b011011010, .wM1344),
       (bitsM 9 0b011011011, .wM1408), (bitsM 9 0b010011000, .wM1472), (bitsM 9 0b010011001, .wM1536),
       (bitsM 9 0b010011010, .wM1600), (bitsM 6 0b011000, .wM1664), (bitsM 9 0b010011011, .wM1728),
       (bitsM 11 0b00000001000, .xM1792), (bitsM 11 0b00000001100, .xM1856), (bitsM 11 0b00000001101, .xM1920),
       (bitsM 12 0b000000010010, .xM1984), (bitsM 12 0b000000010011, .xM2048),
       (bitsM 12 0b000000010100, .xM2112), (bitsM 12 0b000000010101, .xM2176),
       (bitsM 12 0b000000010110, .xM2240), (bitsM 12 0b000000010111, .xM2304),
       (bitsM 12 0b000000011100, .xM2368), (bitsM 12 0b000000011101, .xM2432),
       (bitsM 12 0b000000011110, .xM2496), (bitsM 12 0b000000011111, .xM2560)]) = true := by decide +kernel

/-- The black terminating codes of R389, first half. -/
theorem test_black_terminating_codes_0_31 :
    decodes (.faxRun .black)
      ([(bitsM 10 0b0000110111, .bT0), (bitsM 3 0b010, .bT1), (bitsM 2 0b11, .bT2), (bitsM 2 0b10, .bT3),
       (bitsM 3 0b011, .bT4), (bitsM 4 0b0011, .bT5), (bitsM 4 0b0010, .bT6), (bitsM 5 0b00011, .bT7),
       (bitsM 6 0b000101, .bT8), (bitsM 6 0b000100, .bT9), (bitsM 7 0b0000100, .bT10),
       (bitsM 7 0b0000101, .bT11), (bitsM 7 0b0000111, .bT12), (bitsM 8 0b00000100, .bT13),
       (bitsM 8 0b00000111, .bT14), (bitsM 9 0b000011000, .bT15), (bitsM 10 0b0000010111, .bT16),
       (bitsM 10 0b0000011000, .bT17), (bitsM 10 0b0000001000, .bT18), (bitsM 11 0b00001100111, .bT19),
       (bitsM 11 0b00001101000, .bT20), (bitsM 11 0b00001101100, .bT21), (bitsM 11 0b00000110111, .bT22),
       (bitsM 11 0b00000101000, .bT23), (bitsM 11 0b00000010111, .bT24), (bitsM 11 0b00000011000, .bT25),
       (bitsM 12 0b000011001010, .bT26), (bitsM 12 0b000011001011, .bT27), (bitsM 12 0b000011001100, .bT28),
       (bitsM 12 0b000011001101, .bT29), (bitsM 12 0b000001101000, .bT30), (bitsM 12 0b000001101001, .bT31)]) = true := by decide +kernel

/-- The black terminating codes of R389, second half. -/
theorem test_black_terminating_codes_32_63 :
    decodes (.faxRun .black)
      ([(bitsM 12 0b000001101010, .bT32), (bitsM 12 0b000001101011, .bT33), (bitsM 12 0b000011010010, .bT34),
       (bitsM 12 0b000011010011, .bT35), (bitsM 12 0b000011010100, .bT36), (bitsM 12 0b000011010101, .bT37),
       (bitsM 12 0b000011010110, .bT38), (bitsM 12 0b000011010111, .bT39), (bitsM 12 0b000001101100, .bT40),
       (bitsM 12 0b000001101101, .bT41), (bitsM 12 0b000011011010, .bT42), (bitsM 12 0b000011011011, .bT43),
       (bitsM 12 0b000001010100, .bT44), (bitsM 12 0b000001010101, .bT45), (bitsM 12 0b000001010110, .bT46),
       (bitsM 12 0b000001010111, .bT47), (bitsM 12 0b000001100100, .bT48), (bitsM 12 0b000001100101, .bT49),
       (bitsM 12 0b000001010010, .bT50), (bitsM 12 0b000001010011, .bT51), (bitsM 12 0b000000100100, .bT52),
       (bitsM 12 0b000000110111, .bT53), (bitsM 12 0b000000111000, .bT54), (bitsM 12 0b000000100111, .bT55),
       (bitsM 12 0b000000101000, .bT56), (bitsM 12 0b000001011000, .bT57), (bitsM 12 0b000001011001, .bT58),
       (bitsM 12 0b000000101011, .bT59), (bitsM 12 0b000000101100, .bT60), (bitsM 12 0b000001011010, .bT61),
       (bitsM 12 0b000001100110, .bT62), (bitsM 12 0b000001100111, .bT63)]) = true := by decide +kernel

/-- The black make-up codes and the common ones of R390. -/
theorem test_black_make_up_codes :
    decodes (.faxRun .black)
      ([(bitsM 10 0b0000001111, .bM64), (bitsM 12 0b000011001000, .bM128), (bitsM 12 0b000011001001, .bM192),
       (bitsM 12 0b000001011011, .bM256), (bitsM 12 0b000000110011, .bM320), (bitsM 12 0b000000110100, .bM384),
       (bitsM 12 0b000000110101, .bM448), (bitsM 13 0b0000001101100, .bM512), (bitsM 13 0b0000001101101, .bM576),
       (bitsM 13 0b0000001001010, .bM640), (bitsM 13 0b0000001001011, .bM704),
       (bitsM 13 0b0000001001100, .bM768), (bitsM 13 0b0000001001101, .bM832),
       (bitsM 13 0b0000001110010, .bM896), (bitsM 13 0b0000001110011, .bM960),
       (bitsM 13 0b0000001110100, .bM1024), (bitsM 13 0b0000001110101, .bM1088),
       (bitsM 13 0b0000001110110, .bM1152), (bitsM 13 0b0000001110111, .bM1216),
       (bitsM 13 0b0000001010010, .bM1280), (bitsM 13 0b0000001010011, .bM1344),
       (bitsM 13 0b0000001010100, .bM1408), (bitsM 13 0b0000001010101, .bM1472),
       (bitsM 13 0b0000001011010, .bM1536), (bitsM 13 0b0000001011011, .bM1600),
       (bitsM 13 0b0000001100100, .bM1664), (bitsM 13 0b0000001100101, .bM1728),
       (bitsM 11 0b00000001000, .xM1792), (bitsM 11 0b00000001100, .xM1856), (bitsM 11 0b00000001101, .xM1920),
       (bitsM 12 0b000000010010, .xM1984), (bitsM 12 0b000000010011, .xM2048),
       (bitsM 12 0b000000010100, .xM2112), (bitsM 12 0b000000010101, .xM2176),
       (bitsM 12 0b000000010110, .xM2240), (bitsM 12 0b000000010111, .xM2304),
       (bitsM 12 0b000000011100, .xM2368), (bitsM 12 0b000000011101, .xM2432),
       (bitsM 12 0b000000011110, .xM2496), (bitsM 12 0b000000011111, .xM2560)]) = true := by decide +kernel

/-- Thirteen 0 bits are no run-length code (R381). -/
theorem test_no_run_length_code :
    decodes (.faxRun .white) [(bitsM 13 0, .faxRunIllegal 0)] = true ∧
      decodes (.faxRun .black) [(bitsM 13 1, .faxRunIllegal 1)] = true := by decide +kernel

/-- Words as the opcode table numbers them (log 13). -/
theorem test_table_words :
    decodeTableWord 8 0x11 = some .decodeStreamOpt ∧ decodeTableWord 8 0x80 = some .rlEod ∧
      decodeTableWord 16 0x9C78 = some (.zlibHdr 0x78 0x9C) ∧ decodeTableWord 32 15 = some .predPngOpt ∧
      decodeTableWord 256 0x65646F636544575A6C = some (.fnameUnknown (0x6C :: [0x5A, 0x57, 0x44, 0x65, 0x63, 0x6F, 0x64, 0x65] ++
        List.replicate 23 0)) ∧
      decodeTableWord 256 0x65646F636544575A4C = some .lzwDecode := by decide +kernel

/-! ## Encoding -/

theorem test_encode_round_trip :
    decodes .deflateBlk ([Instr.blkStored false, .blkFixed true].filterMap fun i =>
        (encode .deflateBlk i).map fun bs => (bs, i)) = true ∧
      encode .zlibTrailer (.zlibTrailer 0x024D0127) = some (streamL [0x02, 0x4D, 0x01, 0x27]) ∧
      encode (.faxRun .black) .bT2 = some [true, true] ∧ encode .faxMode .wT0 = none ∧
      encode .rlByte (.rlRepeat 126) = some (bitsM 8 0xFE) := by decide +kernel

/-! ## One step -/

/-- R47, R48: the latch, and the cleared result. -/
theorem test_start_latches :
    let s : State := { State.reset with
      inLen := 2, inp := [(0, 0x41), (1, 0x42), (2, 0x43)], outLen := 7, einfo0 := 9
      status := { Status.zero with state := .error, eclass := .bomb, ecode := 0x70, flateStep := 3 } }
    let t := after (exec .decodeStream s)
    t.j.input = [0x41, 0x42] ∧ t.cur = [0x41, 0x42] ∧ t.origLen = 2 ∧ t.outLen = 0 ∧ t.einfo0 = 0 ∧
      t.status = { Status.zero with state := .busy } ∧ t.phase = .orchestrate := by decide +kernel

theorem test_ccitt_starts :
    (after (exec .ccittDecode State.reset)).phase = .faxBegin ∧ (after (exec .ccittGray State.reset)).phase = .gray ∧
      (after (exec .decodeStreamOpt State.reset)).j.op = .decodeStreamOpt := by decide +kernel

/-- R428: ACK keeps the error registers. -/
theorem test_ack :
    let s : State := { State.reset with
      einfo0 := 9, status := { Status.zero with state := .error, eclass := .bomb, ecode := 0x70 } }
    exec .ack s = .next { s with status := { s.status with state := .idle } } := by rfl

/-- R92, R421, R426: cause 0x01, class 1, unit 15, the stage of the name. -/
theorem test_unknown_name :
    let t := after (exec (.fnameUnknown []) { at' .orchestrate (src []) with stage := 2, cur := [1] })
    t.status.eclass = .unsupportedFilter ∧ t.status.ecode = 0x01 ∧ t.status.estage = 2 ∧ t.status.efilt = 15 ∧
      t.status.state = .error ∧ t.cur = [] ∧ t.outLen = 0 := by decide +kernel

/-- R137: the buffer passes unchanged. R135: 201 bytes of 2 exceed the ratio 100. -/
theorem test_pass_through :
    (after (exec .dctDecode { at' .orchestrate (src []) with cur := [1, 2], origLen := 2 })).stage = 1 ∧
      (after (exec .jbig2Decode { at' .orchestrate (src []) with cur := List.replicate 201 0, origLen := 2 })).status.ecode
        = 0x70 ∧
      (after (exec .ccittFaxDecode { at' .orchestrate (src []) with cur := List.replicate 200 0, origLen := 2 })).stage
        = 1 := by decide +kernel

/-- R135, R142, R426: three bytes from one, beyond a ratio of 2, at the end of an ASCIIHex and of a cut inflate run. -/
theorem test_bomb_after_codec :
    let s (p : Phase) (e : Engine) : State := { limited 2 0 (at' p e) with origLen := 1 }
    let h := after (step (s .hex { src [0x36] with bytePos := 1, out := [1, 2], hi := some 6 }))
    let f := after (step (s .llSym { src [] with out := [1, 2, 3], ladder := ⟨1, 0, .ok, .ok⟩ }))
    (h.status.ecode = 0x70 ∧ h.status.efilt = 1 ∧ h.einfo0 = 3 ∧ h.einfo1 = 1 ∧ h.einfo2 = 2) ∧
      (f.status.ecode = 0x70 ∧ f.status.efilt = 0 ∧ f.status.flatePartial = true ∧ f.status.flateStep = 0) := by
  decide +kernel

/-- The codecs begin over the working buffer. -/
theorem test_codecs_begin :
    let s := { at' .orchestrate (src []) with cur := [1, 2] }
    (after (exec .flateDecode s)).phase = .ladder ∧ (after (exec .asciiHexDecode s)).phase = .hex ∧
      (after (exec .ascii85Decode s)).phase = .a85 ∧ (after (exec .lzwDecode s)).phase = .lzw ∧
      (after (exec .runLengthDecode s)).phase = .rl ∧ (after (exec .runLengthDecode s)).eng.src = [1, 2] := by
  decide +kernel

/-- R324: 5 bytes are no whole rows of 1 + 3. R323: no predictor. R322: selector 3. -/
theorem test_predictor_begins :
    let s := { rows 3 1 .orchestrate (src []) with cur := [0, 1, 2, 3, 0] }
    (after (exec .predPngUp s)).status.ecode = 0x60 ∧ (after (exec .predPngUp s)).einfo1 = 4 ∧
      (after (exec .predTiff { s with cur := [1, 2, 3] })).phase = .tiffRow ∧
      (after (exec .predPngOpt { s with cur := [] })).phase = .pngRow ∧
      (after (exec .predNone s)).cur = [0, 1, 2, 3, 0] ∧ (after (exec (.predIllegal 3) s)).status.ecode = 0x62 := by
  decide +kernel

/-- R164 to R170: where each strategy begins to read. -/
theorem test_strategies_begin :
    let s := { at' .ladder (src []) with cur := [0x79, 0x9C] }
    (after (exec .flateS1 s)).phase = .zlibHdr ∧ (after (exec .flateS2 s)).eng.bitPos = 0 ∧
      (after (exec .flateS3 s)).eng.bitPos = 16 ∧ (after (exec .flateS4 s)).eng.ladder.step = 5 ∧
      (after (exec .flateS5 s)).eng.ladder.step = 6 ∧ (after (exec .flateS6 s)).eng.src = [0x78, 0x9C] ∧
      (after (exec .flateS7 s)).eng.bitPos = 8 := by decide +kernel

/-- R195: 0x789C is a multiple of 31, 0x789D is not (status 3 of R191). R197: the checksum of "abc" is 0x024D0127. -/
theorem test_zlib_header_and_trailer :
    let s := at' .zlibHdr { src [] with ladder := ⟨1, 0, .ok, .ok⟩ }
    let u := at' .zlibTrailer { src [] with out := [0x61, 0x62, 0x63], ladder := ⟨1, 0, .ok, .ok⟩ }
    (after (exec (.zlibHdr 0x78 0x9C) s)).phase = .block ∧
      (after (exec (.zlibHdr 0x78 0x9D) s)).eng.ladder = ⟨2, 0, .zhdrCheck, .ok⟩ ∧
      (after (exec (.zlibTrailer 0x024D0127) u)).status.flatePartial = false ∧
      (after (exec (.zlibTrailer 0x024D0128) u)).status.flatePartial = true ∧
      (after (exec (.zlibTrailer 0x024D0128) u)).cur = [0x61, 0x62, 0x63] := by decide +kernel

/-- R199: LEN 3, NLEN its complement; after the final block of a zlib run the trailer. -/
theorem test_stored_block :
    let s := at' .block { src [0x01, 0x03, 0x00, 0xFC, 0xFF, 0x61, 0x62, 0x63, 0x64] with
      bitPos := 3, inflate := InflateRegs.init true, ladder := ⟨1, 0, .ok, .ok⟩ }
    (after (exec (.blkStored true) s)).eng.out = [0x61, 0x62, 0x63] ∧
      (after (exec (.blkStored true) s)).eng.bitPos = 64 ∧ (after (exec (.blkStored true) s)).phase = .zlibTrailer ∧
      (after (exec (.blkStored false) s)).phase = .block := by decide +kernel

theorem test_block_kinds :
    let s := at' .block { src [] with ladder := ⟨1, 0, .ok, .ok⟩ }
    (after (exec (.blkFixed false) s)).phase = .llSym ∧ (after (exec (.blkDynamic true) s)).phase = .dynHdr ∧
      (after (exec (.blkReserved false) s)).eng.ladder = ⟨2, 0, .btype, .ok⟩ := by decide +kernel

/-- R201: 287 literal/length codes are too many; four three-bit lengths 1, 1, 0, 0 are a code of two symbols. -/
theorem test_dynamic_header_lengths :
    let s := at' .dynHdr { src [0x09, 0x00] with ladder := ⟨1, 0, .ok, .ok⟩ }
    (after (exec (.dynHdr 30 0 0) s)).eng.ladder = ⟨2, 0, .tooMany, .ok⟩ ∧
      (after (exec (.dynHdr 0 0 0) s)).phase = .clSym ∧
      (after (exec (.dynHdr 0 0 0) s)).eng.inflate.clt = [⟨1, 0, 16⟩, ⟨1, 1, 17⟩] := by decide +kernel

/-- R201: the repeats. -/
theorem test_code_length_symbols :
    let s := at' .clSym { src [] with
      inflate := { InflateRegs.init false with hlit := 257, hdist := 1, lens := [7] }, ladder := ⟨1, 0, .ok, .ok⟩ }
    (after (exec (.clLen 5) s)).eng.inflate.lens = [7, 5] ∧ (after (exec (.clCopy 0) s)).eng.inflate.lens = [7, 7, 7, 7] ∧
      (after (exec (.clZero3 0) s)).eng.inflate.lens = [7, 0, 0, 0] ∧
      (after (exec (.clZero11 0) s)).eng.inflate.lens = 7 :: List.replicate 11 0 ∧
      (after (exec (.clCopy 0) (setInflate (fun r => { r with lens := [] }) s))).eng.ladder.e1 = .badRepeat := by
  decide +kernel

/-- The bases of the length symbols (R203). -/
theorem test_length_bases :
    ([(.len257, 3), (.len258, 4), (.len259, 5), (.len260, 6), (.len261, 7), (.len262, 8), (.len263, 9),
       (.len264, 10), (.len265 0, 11), (.len266 0, 13), (.len267 0, 15), (.len268 0, 17), (.len269 0, 19),
       (.len270 0, 23), (.len271 0, 27), (.len272 0, 31), (.len273 0, 35), (.len274 0, 43), (.len275 0, 51),
       (.len276 0, 59), (.len277 0, 67), (.len278 0, 83), (.len279 0, 99), (.len280 0, 115), (.len281 0, 131),
       (.len282 0, 163), (.len283 0, 195), (.len284 0, 227), (.len285, 258)] :
      List (Instr × Nat)).all (fun p => decide ((after (exec p.1 (at' .llSym (src [])))).eng.inflate.matchLen = p.2)) =
      true := by decide +kernel

/-- The bases of the distance symbols (R203). -/
theorem test_distance_bases :
    ([(.dist0, 1), (.dist1, 2), (.dist2, 3), (.dist3, 4), (.dist4 0, 5), (.dist5 0, 7), (.dist6 0, 9),
       (.dist7 0, 13), (.dist8 0, 17), (.dist9 0, 25), (.dist10 0, 33), (.dist11 0, 49), (.dist12 0, 65),
       (.dist13 0, 97), (.dist14 0, 129), (.dist15 0, 193), (.dist16 0, 257), (.dist17 0, 385), (.dist18 0, 513),
       (.dist19 0, 769), (.dist20 0, 1025), (.dist21 0, 1537), (.dist22 0, 2049), (.dist23 0, 3073),
       (.dist24 0, 4097), (.dist25 0, 6145), (.dist26 0, 8193), (.dist27 0, 12289), (.dist28 0, 16385),
       (.dist29 0, 24577)] :
      List (Instr × Nat)).all (fun p => decide (distanceOf p.1 = some p.2)) = true := by decide +kernel

/-- R203: the ends of the ranges; R204: an overlapping copy; a distance beyond the output. -/
theorem test_matches :
    let s := at' .dSym { src [] with
      out := [0x61, 0x62], inflate := { InflateRegs.init false with matchLen := 5 }, ladder := ⟨2, 0, .ok, .ok⟩ }
    (after (exec (.len284 31) s)).eng.inflate.matchLen = 258 ∧
      (after (exec .dist1 s)).eng.out = [0x61, 0x62, 0x61, 0x62, 0x61, 0x62, 0x61] ∧
      (after (exec .dist0 s)).eng.out = [0x61, 0x62, 0x62, 0x62, 0x62, 0x62, 0x62] ∧
      (after (exec (.dist29 0x1FFF) s)).cur = [0x61, 0x62] ∧ (after (exec .dist2 s)).status.flatePartial = true := by
  decide +kernel

/-- R204: a literal, the end of a block, the illegal symbols. -/
theorem test_literals :
    let s := at' .llSym { src [] with ladder := ⟨1, 0, .ok, .ok⟩ }
    (after (exec (.lit 0x61) s)).eng.out = [0x61] ∧ (after (exec .eob s)).phase = .block ∧
      (after (exec (.llIllegal 0) s)).eng.ladder.e1 = .badLlsym ∧
      (after (exec (.dIllegal 0) s)).eng.ladder.e1 = .badDsym := by decide +kernel

/-- R257: 4096 at NEXT_CODE = 4096 is no code (log 31); one entry earlier it is the next one. -/
theorem test_lzw_full_table :
    let s (n : Nat) := at' .lzw { src [] with lzw := ⟨[], n, 13, some [0x61]⟩ }
    (after (exec .lzwKwkwk (s 4096))).status.ecode = 0x40 ∧ (after (exec .lzwKwkwk (s 4096))).einfo0 = 4096 ∧
      (after (exec .lzwKwkwk (s 4095))).eng.out = [0x61, 0x61] := by decide +kernel

/-- R252 to R258: a literal after "a", the code 258 before its entry exists, and the reference to it. -/
theorem test_lzw :
    let s := at' .lzw { src [] with lzw := { LzwRegs.init with prev := some [0x61] } }
    (after (exec (.lzwLit 0x62) s)).eng.lzw.tab = [[0x61, 0x62]] ∧
      (after (exec .lzwKwkwk s)).eng.out = [0x61, 0x61] ∧
      (after (exec (.lzwRef 258) (after (exec (.lzwLit 0x62) s)))).eng.out = [0x62, 0x61, 0x62] ∧
      (after (exec .lzwClear (after (exec (.lzwLit 0x62) s)))).eng.lzw.nextCode = 258 ∧
      (after (exec .lzwEod s)).stage = 1 ∧ (after (exec (.lzwIllegal 300) s)).einfo0 = 300 := by decide +kernel

/-- R298 to R300: 0xFE repeats three times. -/
theorem test_run_length :
    let s := at' .rl (src [0x41, 0x42])
    (after (exec (.rlLiteral 1) s)).eng.out = [0x41, 0x42] ∧ (after (exec (.rlRepeat 126) s)).eng.out = [0x41, 0x41, 0x41] ∧
      (after (exec (.rlLiteral 2) s)).status.ecode = 0x30 ∧ (after (exec (.rlLiteral 2) s)).einfo0 = 3 ∧
      (after (exec .rlEod s)).phase = .orchestrate := by decide +kernel

/-- R285: `486` is 48 60. R293: a step with no byte left ends the data as `~` does. R423: two bytes of a capacity of
one. R199: two of three bytes are there. -/
theorem test_ends_of_input :
    (after (step (at' .hex { src [] with out := [0x48], hi := some 6 }))).cur = [0x48, 0x60] ∧
      (after (step (at' .a85 { src [] with acc := 1, ngrp := 1 }))).status.ecode = 0x22 ∧
      (after (exec .decodeStream { State.reset with cfg := { Config.default with bufCap := some 1 }, inLen := 2 })).status =
        { Status.zero with state := .error, eclass := .decodeError, ecode := 0x7F, efilt := 15 } ∧
      (after (exec (.blkStored false) (at' .block { src [0x03, 0x00, 0xFC, 0xFF, 0x61, 0x62] with
        ladder := ⟨1, 0, .ok, .ok⟩ }))).cur = [0x61, 0x62] := by decide +kernel

/-- R281: the first digit is the high nibble. R284: the offending byte is recorded. -/
theorem test_hex :
    let s := at' .hex (src [])
    (after (exec (.hexDigit 0x39) (after (exec (.hexDigit 0x66) s)))).eng.out = [0xF9] ∧
      (after (exec (.hexWs 0x20) s)).phase = .hex ∧ (after (exec .hexEod s)).phase = .hex ∧
      (after (exec (.hexIllegal 0x47) s)).einfo0 = 0x47 := by decide +kernel

/-- R290, R291: "87cUR" is "Hell", after "87cU" the last digit `R`; R292, R293: `z`, and the group "5s" is "A". -/
theorem test_ascii85 :
    let s := at' .a85 (src [])
    (after (exec (.a85Digit 0x52) (at' .a85 { src [] with acc := ((23 * 85 + 22) * 85 + 66) * 85 + 52, ngrp := 4 }))).eng.out
        = [0x48, 0x65, 0x6C, 0x6C] ∧
      (after (exec .a85Z s)).eng.out = [0, 0, 0, 0] ∧ (after (exec (.a85Ws 0x20) s)).phase = .a85 ∧
      (after (exec .a85Term (at' .a85 { src [] with acc := 20 * 85 + 82, ngrp := 2 }))).status.state = .busy ∧
      (after (exec .a85Term (at' .a85 { src [] with acc := 1, ngrp := 1 }))).status.ecode = 0x22 ∧
      (after (exec (.a85Illegal 0x76) s)).status.ecode = 0x20 := by decide +kernel

/-- R329 to R333: a row 1, 2, 3 after the row 10, 20, 30, one byte a pixel. -/
theorem test_png_rows :
    let s := rows 3 1 .pngRow { src [0, 1, 2, 3] with bytePos := 1, pred := ⟨[10, 20, 30], none, 1⟩ }
    (after (exec .pngNone s)).eng.out = [1, 2, 3] ∧ (after (exec .pngSub s)).eng.out = [1, 3, 6] ∧
      (after (exec .pngUp s)).eng.out = [11, 22, 33] ∧ (after (exec .pngAverage s)).eng.out = [6, 15, 25] ∧
      (after (exec .pngPaeth s)).eng.out = [11, 22, 33] ∧ (after (exec (.pngTagIllegal 5) s)).einfo1 = 1 := by
  decide +kernel

/-- R325, R43: two bytes a pixel, and the PNG registers stay. -/
theorem test_tiff_row :
    let t := after (exec .tiffRow (rows 2 2 .tiffRow (src [1, 2, 3, 255])))
    t.eng.out = [1, 2, 4, 1] ∧ t.eng.bytePos = 4 ∧ t.eng.pred = (src []).pred := by decide +kernel

/-- R394 to R396 on a line of 8 pixels below the row 2, 5. -/
theorem test_two_dimensional_modes :
    let f : FaxRegs := { FaxRegs.init 1 with ref := [2, 5] }
    let s := fax 8 0xFFFFFFFF 0 .faxMode f
    [exec .faxV0 s, exec .faxVr1 s, exec .faxVr2 s, exec .faxVr3 s, exec .faxVl1 s, exec .faxVl2 s].map
        (fun o => (after o).eng.fax.t) = [[2], [3], [4], [5], [1], [0]] ∧
      (after (exec .faxVl3 s)).phase = .faxBegin ∧ (after (exec .faxPass s)).eng.fax.a0 = 5 ∧
      (after (exec .faxHoriz s)).eng.fax.use = .horiz1 ∧ (after (exec (.faxEol 0) s)).phase = .faxBegin := by
  decide +kernel

/-- R385, R392: the alignment of a row start, a Group 4 row, a one-dimensional row, and a tag bit 0. -/
theorem test_fax_row_starts :
    let s (k : BitVec 32) (flags : BitVec 5) (p : Phase) (b : Bytes) : State :=
      { fax 8 k flags p (FaxRegs.init 1) with eng := { src b with bitPos := 1, fax := FaxRegs.init 1 } }
    (after (step (s 0 8 .faxRowStart [0, 0]))).eng.bitPos = 8 ∧ (after (step (s 0 12 .faxRowStart [0, 0]))).eng.bitPos = 1 ∧
      (after (step (s 0xFFFFFFFF 0 .faxEol [0, 0]))).phase = .faxMode ∧ (after (step (s 0 0 .faxEol [0, 0]))).phase = .faxRun ∧
      (after (step { s 1 0 .faxEol [0, 0] with cfg := { Config.default with g3TwoD := true } })).eng.bitPos = 2 := by
  decide +kernel

/-- R391, R395, R398: make-up and terminating codes. -/
theorem test_runs :
    let s := fax 100 0 0 .faxRun (FaxRegs.init 1)
    (after (exec .wM64 s)).eng.fax.total = 64 ∧ (after (exec .wT3 (after (exec .wM64 s)))).eng.fax.t = [67] ∧
      (after (exec .wT3 s)).eng.fax.colour = .black ∧
      (after (exec .bT36 (after (exec .wM64 s)))).eng.fax.rowsDone = [[100]] ∧
      (after (exec .wT37 (after (exec .wM64 s)))).phase = .faxBegin := by decide +kernel

/-- The terminating and make-up codes add what the tables say (R387 to R390). -/
theorem test_run_lengths :
    terminatingCodes.all (fun p => decide ((after (exec p.1 (fax 100 0 0 .faxRun (FaxRegs.init 1)))).eng.fax.pos = p.2)) =
        true ∧
      makeUpCodes.all (fun p => decide ((after (exec p.1 (fax 100 0 0 .faxRun (FaxRegs.init 1)))).eng.fax.total = p.2)) =
        true := by decide +kernel

/-- R382: a stop keeps the rows done: eight pixels, the last three black. -/
theorem test_fax_stop :
    let s := fax 8 0 0 .faxRun { FaxRegs.init 1 with rowsDone := [[5, 8]] }
    (after (exec (.faxRunIllegal 0) s)).out = [(0, 0x07)] ∧ (after (exec (.faxModeIllegal 0) s)).outLen = 1 ∧
      (after (exec (.faxModeIllegal 0) s)).status.state = .done := by decide +kernel

/-! ## The machine -/

/-- A bare table word runs next: a run-length code of the table ends the run. -/
theorem test_with_fetch_word :
    (after (step (State.reset.withFetchWord 8 0x80))).stage = 1 ∧
      (after (step (State.reset.withFetchWord 8 0x11))).j.op = .decodeStreamOpt ∧
      (after (step (State.reset.withFetchWord 32 3))).status.ecode = 0x62 ∧
      (after (step (State.reset.withFetchWord 256 0x65646F636544575A4C))).phase = .lzw := by decide +kernel

/-- R49: a register and a byte read back. -/
theorem test_bus :
    let s : State := { State.reset with moves := [.regWrite 0x20 0xFF, .memWrite .flt 479 7, .memRead .flt 479, .regRead 0x20] }
    let t := after (step (after (step (after (step s)))))
    t.hostData = 7 ∧ (after (step t)).hostData = 0xF ∧ t.flt = [(479, 7)] := by decide +kernel

/-- R70: an offset beyond EINFO3 where reserved offsets read 0 (log 9). -/
theorem test_reserved_offset :
    let s : State := { State.reset with
      cfg := { Config.default with reservedOffsets := .readZero }, hostData := 5, moves := [.regWrite 0xA8 7, .regRead 0xA8] }
    let t := after (step s)
    t = { s with moves := [.regRead 0xA8] } ∧ (after (step t)).hostData = 0 := by decide +kernel

/-- R353: two rows for a picture of one row, a position beyond the width, positions that fall; and rows that keep it. -/
theorem test_fax_contract :
    let p := (fax 8 0 0 .faxBegin (FaxRegs.init 1)).j.desc
    let q := faxParams { p with cFlags := 1, cRows := 1 }
    meetsContract q [[5, 8], [8]] = false ∧ meetsContract q [[5, 9]] = false ∧ meetsContract q [[5, 4]] = false ∧
      meetsContract q [[5, 5, 8]] = true ∧ meetsContract (faxParams p) [[5, 8], [8]] = true := by decide +kernel

/-- R40, R66, R70: what the interface does not have. -/
theorem test_bus_stops :
    step { State.reset with moves := [.memWrite .flt 480 7] } = .fault (.noSuchAddress .flt 480) ∧
      step { State.reset with moves := [.memWrite .out 0 7] } = .refused (.outReadOnly 0) ∧
      step { State.reset with moves := [.regRead 0x21] } = .refused (.misaligned 0x21) ∧
      step { State.reset with moves := [.regRead 0xA8] } = .refused (.noSuchRegister 0xA8) := ⟨rfl, rfl, rfl, rfl⟩

/-- R23: the places of the fields of STATUS. -/
theorem test_status_word :
    statusWord 4 ⟨.error, .bomb, 0x70, 2, 0, 7, true, false, true, false⟩ = 0x2F02700F := by decide +kernel

/-- R9, decision D4: NFILT_MAX 15 gives fields of 4 bits, 16 fields of 5 bits and a FLT of 512 bytes (log 8). -/
theorem test_nfilt_max :
    let s : State := { State.reset with
      cfg := { Config.default with nfiltMax := 16 }, moves := [.regWrite 0x20 0xFF, .memWrite .flt 511 7] }
    Config.default.nfiltBits = 4 ∧ s.cfg.nfiltBits = 5 ∧ Config.legal s.cfg = true ∧
      (after (step s)).desc.nfilt = 0x1F ∧ (after (step (after (step s)))).flt = [(511, 7)] ∧
      (after (exec (.fnameUnknown []) { s with stage := 16 })).status.estage = 16 ∧
      statusWord 5 ⟨.error, .bomb, 0, 16, 15, 0, false, false, false, false⟩ = 0x1F0000F := by decide +kernel

/-- R360: 0xA0 is three pairs of a black and a white pixel first. -/
theorem test_gray :
    (after (step { at' .gray (src []) with j := ⟨.ccittGray, [0xA0], [], Descriptor.reset⟩ })).out =
      [(0, 0x00), (1, 0xFF), (2, 0x00), (3, 0xFF), (4, 0xFF), (5, 0xFF), (6, 0xFF), (7, 0xFF)] := by decide +kernel

/-! ## Witnesses: the hypotheses of each statement can be met -/

/-- A running RunLength stage before its end-of-data byte. -/
def rlRun : State := at' .rl (src [0x80])

/-- A running ASCIIHex stage before an illegal character. -/
def hexRun : State := at' .hex (src [0x47])

theorem witness_StepRunsDecodedInstruction_block :
    running rlRun ∧ want (prepare rlRun) = .code .rlByte (streamM [0x80]) ∧ decode .rlByte (streamM [0x80]) = .instr .rlEod 8 :=
  ⟨⟨rfl, rfl⟩, rfl, by decide +kernel⟩

theorem witness_StepRunsDecodedInstruction_host :
    let s : State := { rlRun with moves := [.pass] }
    (s.moves = [.pass] ∧ s.status.state = .busy ∧
      want (prepare { s with moves := [] }) = .code .rlByte (streamM [0x80])) ∧
    ({ State.reset with moves := [.regWrite 0 0x02] }.moves = [.regWrite 0 0x02] ∧
      decode .cmd (bitsL 64 (0x02 : Word).toNat) = .instr .ack 64) ∧
    (State.reset.moves = [] ∧ State.reset.status.state ≠ .busy) :=
  ⟨⟨rfl, rfl, rfl⟩, ⟨rfl, by decide +kernel⟩, rfl, by decide⟩

/-- For EveryBlockStepCompletes, JobWritesOnlyItsResult and CodecStepsConsumeInput. -/
theorem witness_running_codec :
    running rlRun ∧ rlRun.phase = .rl ∧ (∃ t, step rlRun = .next t) ∧ (after (step rlRun)).status.state ≠ .done :=
  ⟨⟨rfl, rfl⟩, rfl, ⟨_, rfl⟩, by decide +kernel⟩

theorem witness_CodecStepsConsumeInput_lzw :
    running (at' .lzw { src [0x80, 0x0B] with lzw := LzwRegs.init }) ∧ 9 ≤ LzwRegs.init.codeBits ∧
      ∃ t, step (at' .lzw { src [0x80, 0x0B] with lzw := LzwRegs.init }) = .next t := ⟨⟨rfl, rfl⟩, by decide, ⟨_, rfl⟩⟩

/-- Two runs of one job on two hosts. -/
theorem witness_ResultDependsOnTheLatchOnly :
    let s' : State := { hexRun with inLen := 5, desc := { Descriptor.reset with nfilt := 3 }, out := [(0, 1)], draws := 4 }
    running hexRun ∧ running s' ∧ sameRun hexRun s' ∧ ∃ t, step hexRun = .next t :=
  ⟨⟨rfl, rfl⟩, ⟨rfl, rfl⟩, ⟨⟨rfl, rfl, rfl, rfl, rfl, rfl, rfl⟩, rfl, rfl, rfl, rfl, rfl, rfl⟩, ⟨_, rfl⟩⟩

/-- At the capacity exactly. -/
theorem witness_StartLatchesAndAckEndsTheJob :
    let s : State := { State.reset with cfg := { Config.default with bufCap := some 2 }, inLen := 2, inp := [(0, 1), (1, 2)] }
    s.status.state ≠ .busy ∧ overCap s.cfg s.inLen.toNat = false ∧ readByte .inp s.inp 1 = some 2 ∧
      { s with status := { s.status with state := .done } }.status.state = .done ∧
      { s with status := { s.status with state := .error } }.status.state = .error := by decide +kernel

/-- One byte beyond the capacity. -/
theorem witness_StartLatchesAndAckEndsTheJob_capacity :
    let s : State := { State.reset with cfg := { Config.default with bufCap := some 2 }, inLen := 3 }
    s.status.state ≠ .busy ∧ s.cfg.bufCap = some 2 ∧ 2 < s.inLen.toNat := by decide

theorem witness_StartAndAckIgnored :
    { hexRun with moves := [.regWrite 0 1] }.status.state = .busy ∧
      { State.reset with moves := [.regWrite 0 2] }.status.state = .idle ∧ (2 : Word).getLsbD 0 = false := by decide

theorem witness_CtrlWriteSelectsTheCommand :
    ((0x03 : Word).getLsbD 0 = true ∧ (0x03 : Word).getLsbD 5 = false ∧ (0x03 : Word).getLsbD 4 = false) ∧
    ((0x11 : Word).getLsbD 0 = true ∧ (0x11 : Word).getLsbD 5 = false ∧ (0x11 : Word).getLsbD 4 = true) ∧
    ((0x21 : Word).getLsbD 0 = true ∧ (0x21 : Word).getLsbD 5 = true ∧ (0x21 : Word).getLsbD 4 = false) ∧
    ((0x31 : Word).getLsbD 0 = true ∧ (0x31 : Word).getLsbD 5 = true ∧ (0x31 : Word).getLsbD 4 = true) ∧
    ((0x32 : Word).getLsbD 0 = false ∧ (0x32 : Word).getLsbD 1 = true) ∧
    ((0x30 : Word).getLsbD 0 = false ∧ (0x30 : Word).getLsbD 1 = false) := by decide

theorem witness_RegistersReadBackWhatWasWritten :
    let s : State := { State.reset with moves := [.regWrite 0x80 0xFFFFFFFFFFFFFFFF, .regRead 0x80] }
    0x80 ∈ rwOffsets ∧ s.status.state ≠ .busy ∧ Config.legal s.cfg = true := by decide

/-- A write of OUT_LEN; a read of STATUS in each state that is not BUSY and with each class; the first reserved offset, in
both readings; the offset below it that is no multiple of 8. -/
theorem witness_RegistersReadBackWhatWasWritten_readOnly :
    let w : State := { State.reset with moves := [.regWrite 0x18 7] }
    let r (st : RunState) (e : ErrClass) : State :=
      { State.reset with moves := [.regRead 0x08], status := { State.reset.status with state := st, eclass := e } }
    let z (ro : ReservedOffsets) (m : Move) : State :=
      { State.reset with cfg := { Config.default with reservedOffsets := ro }, moves := [m] }
    (0x18 ∈ [0x08, 0x18, 0x88, 0x90, 0x98, 0xA0] ∧ w.moves = .regWrite 0x18 7 :: []) ∧
    (∀ st ∈ [RunState.idle, .done, .error], ∀ e ∈ [ErrClass.none, .unsupportedFilter, .decodeError, .bomb],
      (r st e).moves = .regRead 0x08 :: [] ∧ (r st e).status.state ≠ .busy ∧ (r st e).cfg.nfiltMax ≤ 15) ∧
    (0xA8 % 8 = 0 ∧ 0xA0 < 0xA8 ∧ 0xA7 % 8 ≠ 0 ∧ (z .refuse (.regRead 0xA8)).cfg.reservedOffsets = .refuse ∧
      (z .refuse (.regRead 0xA8)).moves = .regRead 0xA8 :: [] ∧
      (z .readZero (.regWrite 0xA8 1)).cfg.reservedOffsets = .readZero ∧
      (z .readZero (.regWrite 0xA8 1)).moves = .regWrite 0xA8 1 :: []) := by decide +kernel

/-- A write and a read while BUSY. -/
theorem witness_RegistersReadBackWhatWasWritten_busy :
    let w : State := { hexRun with moves := [.regWrite 0x58 7] }
    let r (o : Nat) : State := { hexRun with moves := [.regRead o] }
    (0x58 ∈ rwOffsets ∧ Config.legal w.cfg = true ∧ w.moves = .regWrite 0x58 7 :: [] ∧ w.status.state = .busy) ∧
    ((r 0x08).moves = .regRead 0x08 :: [] ∧ (r 0x08).status.state = .busy ∧ 0x08 % 8 = 0 ∧ 0x08 ≤ 0xA0) ∧
    ((r 0xA0).moves = .regRead 0xA0 :: [] ∧ 0xA0 % 8 = 0 ∧ 0xA0 ≠ 0x08) := by decide

/-- The last byte of FLT, and the first of IN. -/
theorem witness_BufferBytesReadBackWhatWasWritten :
    let s : State := { State.reset with moves := [.memWrite .flt 479 0, .memRead .flt 479], flt := [(479, 1)] }
    hasAddress s.cfg .flt 479 = true ∧ hasAddress s.cfg .inp 0 = true ∧ s.status.state ≠ .busy ∧ memoryWf s := by
  refine ⟨by decide, by decide, by decide, by decide, by decide, by decide⟩

/-- A byte of IN written while BUSY; the last byte of the result; a write of OUT; the first address beyond FLT, and beyond a
capacity. -/
theorem witness_BufferBytesReadBackWhatWasWritten_more :
    let w : State := { hexRun with moves := [.memWrite .inp 3 9] }
    let r : State := { State.reset with moves := [.memRead .out 1], outLen := 2, out := [(0, 5), (1, 6)] }
    let o : State := { State.reset with moves := [.memWrite .out 0 9] }
    let f : State := { State.reset with moves := [.memRead .flt 480] }
    let i : State := { State.reset with cfg := { Config.default with bufCap := some 4 }, moves := [.memWrite .inp 4 9] }
    (hasAddress w.cfg .inp 3 = true ∧ w.moves = .memWrite .inp 3 9 :: [] ∧ w.status.state = .busy ∧ memoryWf w) ∧
    (hasAddress r.cfg .out 1 = true ∧ r.moves = .memRead .out 1 :: [] ∧ r.status.state ≠ .busy ∧ 1 < r.outLen.toNat ∧
      readByte .out r.out 1 = some 6) ∧
    o.moves = .memWrite .out 0 9 :: [] ∧
    (f.moves = .memRead .flt 480 :: [] ∧ 32 * f.cfg.nfiltMax ≤ 480) ∧
    (i.moves = .memWrite .inp 4 9 :: [] ∧ i.cfg.bufCap = some 4 ∧ 4 ≤ 4) := by
  refine ⟨⟨rfl, rfl, rfl, by decide, by decide, by decide⟩, ?_, ?_, ?_, ?_⟩ <;> decide

theorem witness_MemoryFormKept :
    let s : State := { State.reset with moves := [.memWrite .flt 479 0], flt := [(479, 1)] }
    memoryWf s ∧ ∃ t, step s = .next t := by
  refine ⟨⟨by decide, by decide, by decide⟩, ⟨_, rfl⟩⟩

theorem witness_ResultRegistersStayConsistent : resultWf hexRun ∧ ∃ t, step hexRun = .next t :=
  ⟨⟨fun _ => ⟨rfl, rfl, rfl, rfl, rfl, rfl, rfl⟩, fun h => absurd rfl h, fun h => (by cases h), fun _ => rfl⟩, ⟨_, rfl⟩⟩

/-- Inside the one filter stage of a job. -/
theorem witness_StageCounterStaysInRange :
    let s := withDesc { Descriptor.reset with nfilt := 1 } hexRun
    stageWf s ∧ running s ∧ ∃ t, step s = .next t := by
  refine ⟨fun _ => ⟨fun _ => ⟨rfl, by decide⟩, fun h => ?_, fun h => ?_, fun h => ?_, fun h => ?_⟩, ⟨rfl, rfl⟩, ⟨_, rfl⟩⟩
  · rcases h with h | h <;> cases h
  · cases h
  · cases h
  · cases h

/-- One code before the width grows: the step goes on with the run. -/
theorem witness_LzwRegistersStayConsistent :
    let s := at' .lzw { src [0x41, 0x41] with lzw := ⟨List.replicate 253 [1, 2], 511, 9, some [0x41]⟩ }
    Config.legal s.cfg = true ∧ lzwWf s ∧ running s ∧ s.phase = .lzw ∧ (∃ t, step s = .next t) ∧
      (after (step s)).phase = .lzw := by
  refine ⟨by decide, ⟨by decide +kernel, by decide, by decide, by decide, by decide, by decide +kernel, ?_, ?_, ?_, ?_⟩,
    ⟨rfl, rfl⟩, rfl, ⟨_, rfl⟩, by decide +kernel⟩
  · intro p h
    cases h
    decide
  · intro k x h
    obtain rfl : [1, 2] = x := by
      have := List.mem_of_getElem? h
      exact (List.eq_of_mem_replicate this).symm
    exact Nat.le_add_left 2 k
  · intro p h
    cases h
    decide
  · intro h
    cases h

theorem witness_Ascii85GroupStaysBounded :
    let s := at' .a85 { src [0x75] with acc := 85 ^ 4 - 1, ngrp := 4 }
    a85Wf s ∧ ∃ t, step s = .next t := ⟨⟨by decide, by decide⟩, ⟨_, rfl⟩⟩

/-- The second run of HORIZ that ends at the width. -/
theorem witness_FaxRowsStayOrdered :
    let s := fax 8 0xFFFFFFFF 0 .faxRun
      { FaxRegs.init 1 with ref := [2, 8], rowsDone := [[2, 8]], t := [3], a0 := 3, use := .horiz2 5 }
    faxWf s ∧ ∃ t, step s = .next t := by
  refine ⟨⟨?_, ?_, fun _ => ⟨?_, by decide, ?_⟩, ?_, ?_⟩, ⟨_, rfl⟩⟩
  · simp [rowWf, fax, at', faxColumns]
  · simp [rowWf, fax, at', faxColumns]
  · simp [rowWf, fax, at', faxColumns]
  · simp [fax, at']
  · intro a1 _ h
    cases h
    decide
  · intro _ h
    cases h

/-- Within the limits; beyond the ratio; within the ratio and beyond the size. -/
theorem witness_StageEndsAreChecked :
    let s : State := { limited 2 4 rlRun with cur := [1, 2, 3, 4], origLen := 2 }
    let u : State := { limited 2 4 rlRun with cur := [1, 2, 3, 4, 5], origLen := 2 }
    let v : State := { limited 0 4 rlRun with cur := [1, 2, 3, 4, 5], origLen := 2 }
    s.j.op = .decodeStreamOpt ∧ s.j.desc.secValid = 1 ∧ ¬ 2 * max 1 s.origLen < s.cur.length ∧
      ¬ 4 < s.cur.length ∧ 2 * max 1 u.origLen < u.cur.length ∧ v.j.desc.maxRatio = 0 ∧ 4 < v.cur.length := by
  decide +kernel

/-- The end of a stage of each filter with an output of three bytes from an input of one, beyond a ratio of 2: an inflate run
cut in strategy 1 and the end of a raw block, an unpaired digit, a final group, an LZW input that is used up and EOD, a
RunLength input that is used up and RL_EOD, a pass-through stage. -/
theorem witness_StageEndsAreChecked_ends :
    let s (p : Phase) (e : Engine) : State := { limited 2 0 (at' p e) with origLen := 1 }
    let h := s .hex { src [0x36] with bytePos := 1, out := [1, 2], hi := some 6 }
    let a := s .a85 { src [] with out := [1, 2], ngrp := 2 }
    let f := s .llSym { src [] with out := [1, 2, 3], ladder := ⟨1, 0, .ok, .ok⟩ }
    let b := s .llSym { src [] with
      out := [1, 2, 3], ladder := ⟨2, 0, .ok, .ok⟩, inflate := { InflateRegs.init false with bfinal := true } }
    let l := s .lzw { src [0x80] with out := [1, 2, 3], lzw := LzwRegs.init }
    let r := s .rl { src [] with out := [1, 2, 3] }
    let d : State := { s .orchestrate (src []) with cur := [1, 2, 3] }
    stageEnds 0 [1, 2, 3] true (step f) f ∧ stageEnds 0 [1, 2, 3] false (exec .eob b) b ∧
      stageEnds 1 [1, 2, 0x60] false (step h) h ∧ stageEnds 2 [1, 2, 0] false (exec .a85Term a) a ∧
      stageEnds 3 [1, 2, 3] false (step l) l ∧ stageEnds 3 [1, 2, 3] false (exec .lzwEod l) l ∧
      stageEnds 4 [1, 2, 3] false (step r) r ∧ stageEnds 4 [1, 2, 3] false (exec .rlEod r) r ∧
      stageEnds 6 [1, 2, 3] false (exec .ccittFaxDecode d) d ∧
      (0 < 2 ∧ h.cfg.ratioCmp = .exact ∧ 2 * max 1 h.origLen < 3 ∧ h.j.op = .decodeStreamOpt ∧ h.j.desc.secValid = 1 ∧
        h.j.desc.maxRatio.toNat = 2) := by
  refine ⟨.inl ⟨rfl, .inl ⟨⟨?_, .inl ⟨by decide, .inl (by decide)⟩⟩, rfl⟩⟩,
    .inl ⟨rfl, .inl ⟨⟨.inr (.inl ⟨rfl, rfl, rfl, rfl⟩), .inl ⟨by decide, .inl (by decide)⟩⟩, rfl⟩⟩,
    .inr ⟨rfl, .inl ⟨rfl, ⟨⟨rfl, rfl⟩, rfl, by decide⟩, rfl, .inr ⟨6, rfl, by decide, rfl⟩⟩⟩,
    .inr ⟨rfl, .inr (.inl ⟨rfl, rfl, .inr ⟨614124, by decide, by decide, by decide, by decide, by decide, rfl⟩⟩)⟩,
    .inr ⟨rfl, .inr (.inr (.inl ⟨rfl, .inr (.inl ⟨⟨rfl, rfl⟩, rfl, rfl, rfl, by decide⟩)⟩))⟩,
    .inr ⟨rfl, .inr (.inr (.inl ⟨rfl, .inl ⟨rfl, rfl⟩⟩))⟩,
    .inr ⟨rfl, .inr (.inr (.inr (.inl ⟨rfl, rfl, .inr ⟨⟨⟨rfl, rfl⟩, rfl, by decide⟩, rfl⟩⟩)))⟩,
    .inr ⟨rfl, .inr (.inr (.inr (.inl ⟨rfl, rfl, .inl rfl⟩)))⟩,
    .inr ⟨rfl, .inr (.inr (.inr (.inr ⟨rfl, .inr (.inl ⟨rfl, rfl⟩)⟩)))⟩, by decide⟩
  exact .inr (.inr (.inr (.inr (.inr ⟨.eof, rfl,
    ⟨⟨rfl, rfl⟩, _, _, .endOfInput, rfl, by decide +kernel, .inl ⟨rfl, rfl, by decide⟩⟩, rfl⟩))))

/-- The state with a working-buffer capacity. -/
def withCap (cap : Nat) (s : State) : State := { s with cfg := { s.cfg with bufCap := some cap } }

/-- One byte beyond a capacity of one, for each of the codes that make one, and at the end of an ASCIIHex input. -/
theorem witness_IllegalCodesAbortTheJob :
    let s := withCap 1 (at' .rl { src [7] with out := [1], hi := some 5 })
    let e := withCap 1 (at' .hex { src [0x36] with bytePos := 1, out := [1], hi := some 6 })
    s.cfg.bufCap = some 1 ∧ 1 < s.eng.out.length + 1 ∧ hexVal 0x66 = some 15 ∧ s.eng.hi = some 5 ∧ s.eng.ngrp = 0 ∧
      s.eng.src[s.eng.bytePos]? = some 7 ∧ 1 < s.eng.out.length + (257 - (128 + (127 : BitVec 7).toNat)) ∧
      s.eng.bytePos + ((0 : BitVec 7).toNat + 1) ≤ s.eng.src.length ∧
      (e.eng.hi = some 6 ∧ e.moves = [] ∧ e.status.state = .busy ∧ e.phase = .hex ∧ e.eng.src.length ≤ e.eng.bytePos) := by
  decide

/-- A match, stored data, the LZW codes and the groups of ASCII85. -/
theorem witness_IllegalCodesAbortTheJob_strings :
    let m := withCap 3 (at' .dSym { src [] with out := [1], inflate := { InflateRegs.init false with matchLen := 3 } })
    let b := withCap 0 (at' .block { src [0x01, 0x01, 0x00, 0xFE, 0xFF, 0x61] with bitPos := 3 })
    let l := withCap 1 (at' .lzw { src [] with lzw := ⟨[[1, 2]], 259, 9, some [1]⟩ })
    let g (n : Nat) := withCap 0 (at' .a85 { src [] with ngrp := n })
    (distanceOf .dist0 = some 1 ∧ 1 ≤ m.eng.out.length ∧ 3 < m.eng.out.length + m.eng.inflate.matchLen) ∧
    (b.eng.src.drop ((b.eng.bitPos + 7) / 8) = 0x01 :: 0x00 :: 0xFE :: 0xFF :: [0x61] ∧
      1 = (0x01 : Byte).toNat + 256 * (0x00 : Byte).toNat ∧
      1 + ((0xFE : Byte).toNat + 256 * (0xFF : Byte).toNat) = 65535 ∧ 0 < b.eng.out.length + min 1 [(0x61 : Byte)].length) ∧
    (258 ≤ (258 : BitVec 16).toNat ∧ (258 : BitVec 16).toNat < l.eng.lzw.nextCode ∧
      l.eng.lzw.tab[(258 : BitVec 16).toNat - 258]? = some [1, 2] ∧ 1 < l.eng.out.length + [1, 2].length) ∧
    (l.eng.lzw.prev = some [1] ∧ l.eng.lzw.nextCode < 4096 ∧
      1 < l.eng.out.length + ([1] ++ ([1] : Bytes).take 1).length) ∧
    ((g 4).eng.ngrp = 4 ∧ 85 * (g 4).eng.acc + ((0x75 : Byte).toNat - 0x21) < 2 ^ 32 ∧ 0 < (g 4).eng.out.length + 4) ∧
    (2 ≤ (g 2).eng.ngrp ∧ (g 2).eng.ngrp ≤ 4 ∧ ((g 2).eng.acc + 1) * 85 ^ (5 - (g 2).eng.ngrp) - 1 < 2 ^ 32 ∧
      0 < (g 2).eng.out.length + ((g 2).eng.ngrp - 1)) := by decide +kernel

/-- A predictor row; the bitmap of the rows done, the white bitmap and the gray bytes. -/
theorem witness_IllegalCodesAbortTheJob_pictures :
    let r := withCap 2 (rows 3 1 .pngRow { src [0, 1, 2, 3] with bytePos := 1 })
    let f := withCap 0 (fax 8 0 0 .faxRun { FaxRegs.init 1 with rowsDone := [[5, 8]] })
    let w := withCap 0 (withDesc { (fax 8 0 1 .faxRun (FaxRegs.init 2)).j.desc with cRows := 1 } (fax 8 0 1 .faxRun (FaxRegs.init 2)))
    let g : State := withCap 7 { at' .gray (src []) with j := ⟨.ccittGray, [0xA0], [], Descriptor.reset⟩ }
    (r.eng.bytePos + pixelBytes r.j.desc ≤ r.eng.src.length ∧ 2 < r.eng.out.length + pixelBytes r.j.desc) ∧
    (f.eng.fax.rowsDone ≠ [] ∧ 0 < (rowsToBitmap f.eng.fax.rowsDone f.j.desc.cColumns.toNat
      (if f.j.desc.cFlags.getLsbD 0 then f.j.desc.cRows.toNat else f.eng.fax.rowsDone.length)).length) ∧
    (w.eng.fax.rowsDone = [] ∧ w.eng.fax.attempt = 2 ∧ w.j.desc.cFlags.getLsbD 0 = true ∧
      0 < w.j.desc.cRows.toNat * ((w.j.desc.cColumns.toNat + 7) / 8)) ∧
    (g.moves = [] ∧ g.status.state = .busy ∧ g.phase = .gray ∧ 7 < 8 * g.j.input.length) := by decide +kernel

/-- An answer of a configuration function, whatever it is: none, empty, or beyond a capacity of no byte. -/
theorem witness_IllegalCodesAbortTheJob_answers :
    let s : State := withCap 0 { rlRun with
      cfg := { Config.default with lzwPrimaryPresent := true, altInflate4Present := true, altInflate5Present := true } }
    s.cfg.bufCap = some 0 ∧ s.cfg.lzwPrimaryPresent = true ∧ s.cfg.altInflate4Present = true ∧
      s.cfg.altInflate5Present = true ∧
      ∀ f ∈ [Config.lzwPrimary, Config.altInflate4, Config.altInflate5],
        f s.cur = none ∨ f s.cur = some [] ∨ ∃ o, f s.cur = some o ∧ 0 < o.length := by
  refine ⟨rfl, rfl, rfl, rfl, fun f _ => ?_⟩
  rcases h : f _ with _ | _ | ⟨b, o⟩
  · exact .inl rfl
  · exact .inr (.inl rfl)
  · exact .inr (.inr ⟨b :: o, rfl, Nat.succ_pos _⟩)

theorem witness_CompletionDeliversTheResult :
    let s : State := { at' .orchestrate (src []) with stage := 1, cur := [1, 2] }
    running s ∧ s.phase = .orchestrate ∧ s.stage = s.j.desc.nfilt.toNat + 1 ∧ Config.legal s.cfg = true ∧
      s.cur.length < 2 ^ s.cfg.lenBits := ⟨⟨rfl, rfl⟩, rfl, rfl, by decide, by decide⟩

/-- The slot of each name; and a slot whose first byte is 0. -/
theorem witness_FilterNamesSelectTheirCodec :
    (filterNames.all fun n => decide ((padSlot n).length = 32) && decide (slotName (padSlot n) = n)) = true ∧
      slotName (List.replicate 32 0) ∉ filterNames := by decide +kernel

/-- The second of two slots at a stage boundary. -/
theorem witness_FilterNamesSelectTheirCodec_step :
    let slot := padSlot (filterNames.getD 3 [])
    let s : State := { at' .orchestrate (src []) with
      stage := 1, j := ⟨.decodeStream, [], [List.replicate 32 0, slot], { Descriptor.reset with nfilt := 2 }⟩ }
    running s ∧ s.phase = .orchestrate ∧ s.stage < s.j.desc.nfilt.toNat ∧ s.j.flt[s.stage]? = some slot ∧
      slot.length = 32 ∧ slotName slot = filterNames.getD 3 [] :=
  ⟨⟨rfl, rfl⟩, rfl, by decide, rfl, by decide +kernel, by decide +kernel⟩

/-- Without a primary path; and with one, whatever it answers: its answer is one of the two the statement covers, and the
capacity and the limits of this state admit any. -/
theorem witness_CodecsBeginAtTheirFirstByte :
    let s : State := { limited 0 0 rlRun with cfg := { Config.default with lzwPrimaryPresent := true } }
    rlRun.cfg.lzwPrimaryPresent = false ∧ s.cfg.lzwPrimaryPresent = true ∧
      (Config.lzwPrimary s.cur = none ∨ ∃ o, Config.lzwPrimary s.cur = some o ∧ overCap s.cfg o.length = false ∧
        withinLimits s o.length) := by
  refine ⟨rfl, rfl, ?_⟩
  cases h : Config.lzwPrimary _ with
  | none => exact .inl rfl
  | some o => exact .inr ⟨o, rfl, rfl, rfl, rfl⟩

/-- The predictor step of a job with parameters and a selector in and out of range, and of one without. -/
theorem witness_PredictorBeginsItsRows_step :
    let s (op : Op) (v : BitVec 1) (p : BitVec 32) : State := { at' .orchestrate (src []) with
      stage := 1, j := ⟨op, [], [], { Descriptor.reset with nfilt := 1, dpValid := v, predictor := p }⟩ }
    (running (s .decodeStreamOpt 1 12) ∧ (s .decodeStreamOpt 1 12).phase = .orchestrate ∧
      (s .decodeStreamOpt 1 12).stage = (s .decodeStreamOpt 1 12).j.desc.nfilt.toNat) ∧
    ((s .decodeStreamOpt 1 12).j.op = .decodeStreamOpt ∧ (s .decodeStreamOpt 1 12).j.desc.dpValid = 1 ∧
      (s .decodeStreamOpt 1 12).j.desc.predictor = 12) ∧
    (s .decodeStreamOpt 1 16).j.desc.predictor ∉ ([1, 2, 10, 11, 12, 13, 14, 15] : List (BitVec 32)) ∧
    (s .decodeStreamOpt 0 12).j.desc.dpValid ≠ 1 ∧ (s .decodeStream 1 12).j.op ≠ .decodeStreamOpt :=
  ⟨⟨⟨rfl, rfl⟩, rfl, by decide⟩, by decide, by decide, by decide, by decide⟩

/-- One whole row of 3 bytes with its tag, and no row. -/
theorem witness_PredictorBeginsItsRows :
    let s : State := { rows 3 1 .orchestrate (src []) with cur := [0, 1, 2, 3] }
    s.j.desc.columns ≠ 0 ∧ s.j.desc.colors ≠ 0 ∧ s.j.desc.bpc ≠ 0 ∧
      (s.j.desc.columns.toNat * s.j.desc.colors.toNat * s.j.desc.bpc.toNat + 7) / 8 = 3 ∧
      s.cur.length % (3 + 1) = 0 ∧ ([] : Bytes).length % (3 + 1) = 0 := by decide

theorem witness_PredictorRefusesBadGeometry :
    let s : State := { rows 3 1 .orchestrate (src []) with cur := [0, 1, 2, 3, 4] }
    s.cur.length % 4 ≠ 0 ∧ s.j.desc.columns ≠ 0 ∧ s.j.desc.colors ≠ 0 ∧ s.j.desc.bpc ≠ 0 ∧
      (rows 0 1 .orchestrate (src [])).j.desc.columns = 0 ∧ (rows 1 0 .orchestrate (src [])).j.desc.colors = 0 := by decide

/-- The last row of the input; for TiffRowAddsTheLeftNeighbour too. -/
theorem witness_PngRowFollowsItsTag :
    let s := rows 3 1 .pngRow { src [0, 1, 2, 3] with bytePos := 1 }
    s.j.desc.colors ≠ 0 ∧ s.eng.bytePos + pixelBytes s.j.desc ≤ s.eng.src.length ∧
      overCap s.cfg (s.eng.out.length + pixelBytes s.j.desc) = false := by decide

/-- The stored tag 4 and the stored tag 5, each with no implied tag and with the implied tag 2; a TIFF row; no byte left. -/
theorem witness_PngRowFollowsItsTag_step :
    let s (b : Byte) (t : Option Nat) : State := rows 3 1 .pngRow { src [b, 1, 2, 3] with pred := ⟨[0, 0, 0], t, 0⟩ }
    let e (p : Phase) : State := rows 3 1 p { src [1, 2, 3] with bytePos := 3, out := [1, 2, 3] }
    (running (s 4 none) ∧ (s 4 none).phase = .pngRow ∧ (s 4 none).eng.src[(s 4 none).eng.bytePos]? = some 4 ∧
      (s 4 none).eng.pred.implied = none ∧ (s 5 none).eng.src[(s 5 none).eng.bytePos]? = some 5 ∧ 4 < 5 ∧
      (s 5 (some 2)).eng.pred.implied = some 2 ∧ 2 ≤ 4) ∧
    (running (rows 3 1 .tiffRow (src [1])) ∧ (rows 3 1 .tiffRow (src [1])).phase = .tiffRow ∧
      (rows 3 1 .tiffRow (src [1])).eng.bytePos < (rows 3 1 .tiffRow (src [1])).eng.src.length) ∧
    bytesUsedUp .pngRow (e .pngRow) ∧ bytesUsedUp .tiffRow (e .tiffRow) :=
  ⟨⟨⟨rfl, rfl⟩, rfl, rfl, rfl, rfl, by decide, rfl, by decide⟩, ⟨⟨rfl, rfl⟩, rfl, by decide⟩,
    ⟨⟨rfl, rfl⟩, rfl, by decide⟩, ⟨⟨rfl, rfl⟩, rfl, by decide⟩⟩

/-- Equal distances: Paeth of 1, 3 and 2, and of 9, 1 and 2. -/
theorem witness_PaethPicksTheClosest : paeth 1 3 2 = 2 ∧ paeth 4 4 4 = 4 ∧ paeth 9 1 2 = 9 ∧ paeth 1 9 2 = 9 := by decide

/-- A first byte with the low bits 9; one with the low bits 8; no byte. -/
theorem witness_StrategiesBeginTheirRuns :
    let s : State := { rlRun with cur := [0x79] }
    let u : State := { rlRun with cur := [0x78] }
    (s.cur = 0x79 :: [] ∧ (0x79 : Byte).toNat % 16 ≠ 8) ∧ (∀ c rest, u.cur = c :: rest → c.toNat % 16 = 8) ∧
      ∀ c rest, rlRun.cur = c :: rest → c.toNat % 16 = 8 := by
  refine ⟨by decide, ?_, ?_⟩
  · intro c rest h
    cases h
    decide
  · intro c rest h
    cases h

/-- Absent; and present, whatever the function answers. -/
theorem witness_AlternativeInflatersMayAnswer :
    let s : State := { limited 0 0 rlRun with cfg := { Config.default with altInflate4Present := true } }
    rlRun.cfg.altInflate4Present = false ∧ s.cfg.altInflate4Present = true ∧
      ((Config.altInflate4 s.cur = none ∨ Config.altInflate4 s.cur = some []) ∨
        ∃ o, Config.altInflate4 s.cur = some o ∧ o ≠ [] ∧ overCap s.cfg o.length = false ∧ withinLimits s o.length) := by
  refine ⟨rfl, rfl, ?_⟩
  cases h : Config.altInflate4 _ with
  | none => exact .inl (.inl rfl)
  | some o =>
    cases o with
    | nil => exact .inl (.inr rfl)
    | cons b o => exact .inr ⟨b :: o, rfl, by simp, rfl, rfl, rfl⟩

/-- A run with output, a clean empty run that is accepted, and the scan with a text operator. -/
theorem witness_FlateOutputIsAccepted :
    let s := at' .llSym { src [] with out := [1], ladder := ⟨6, 0, .ok, .ok⟩ }
    let e : State := { at' .llSym { src [] with
      inflate := { InflateRegs.init false with bfinal := true }, ladder := ⟨1, 0, .ok, .ok⟩ } with
      cfg := { Config.default with acceptCleanEmpty := true }, origLen := 1 }
    let x : State := { at' .llSym { src [] with out := [0x42, 0x54], ladder := ⟨7, 20, .ok, .ok⟩ } with origLen := 1 }
    (s.eng.ladder.step < 7 ∧ s.eng.out ≠ [] ∧ withinLimits s s.eng.out.length) ∧
    (e.eng.inflate.bfinal = true ∧ e.eng.inflate.zlib = false ∧ e.eng.ladder.step < 7 ∧ e.cfg.acceptCleanEmpty = true ∧
      withinLimits e e.eng.out.length) ∧
    (x.eng.ladder.step = 7 ∧ hasTextOp x.eng.out = true ∧ withinLimits x x.eng.out.length) := by
  refine ⟨⟨by decide, by decide, ?_, ?_⟩, ⟨rfl, rfl, by decide, rfl, rfl, rfl⟩, ⟨rfl, by decide, ?_, ?_⟩⟩ <;> decide +kernel

/-- A failed strategy, the scan at offset 19, the scan at offset 20; a wrong and a right trailer of no byte, and the end
of a raw run. -/
theorem witness_FlateFailureGoesOn :
    let s (step off : Nat) := at' .llSym { src [] with
      inflate := { InflateRegs.init false with bfinal := true }, ladder := ⟨step, off, .ok, .ok⟩ }
    ((2 : BitVec 32).toNat ≠ adler32 (s 6 0).eng.out ∧ (1 : BitVec 32).toNat = adler32 (s 6 0).eng.out ∧
      (s 6 0).eng.inflate.bfinal = true ∧ (s 6 0).eng.inflate.zlib = false ∧ (s 6 0).cfg.acceptCleanEmpty = false) ∧
    ((s 6 0).eng.ladder.step < 7 ∧ (s 6 0).eng.out = []) ∧
    ((s 7 19).eng.ladder.step = 7 ∧ hasTextOp (s 7 19).eng.out = false ∧ 19 + 1 ≤ 20) ∧
    ((s 7 20).eng.ladder.step = 7 ∧ hasTextOp (s 7 20).eng.out = false ∧ 20 < 20 + 1) := by decide

/-- The end of the input in each phase of an inflate run, and a code that is in none of the tables, which hold one code
of one bit each. -/
theorem witness_FlateFailureGoesOn_cut :
    let r : InflateRegs := { InflateRegs.init true with clt := [⟨1, 0, 0⟩], ll := [⟨1, 0, 256⟩], dd := [⟨1, 0, 0⟩] }
    let s (p : Phase) (b : Bytes) : State := at' p { src b with inflate := r }
    (∀ p ∈ [Phase.zlibHdr, .zlibTrailer, .block, .dynHdr, .clSym, .llSym, .dSym], inflateCut (s p []) .eof) ∧
      inflateCut (s .clSym [0xFF, 0xFF]) .badClsym ∧ inflateCut (s .llSym [0xFF, 0xFF]) .badLlsym ∧
      inflateCut (s .dSym [0xFF, 0xFF]) .badDsym ∧
      withinLimits { s .dSym [0xFF, 0xFF] with origLen := 1 } 0 := by
  refine ⟨fun p hp => ?_, ⟨⟨rfl, rfl⟩, _, _, .noCode, rfl, ?_, .inr ⟨rfl, .inl ⟨rfl, rfl⟩⟩⟩,
    ⟨⟨rfl, rfl⟩, _, _, .noCode, rfl, ?_, .inr ⟨rfl, .inr (.inl ⟨rfl, rfl⟩)⟩⟩,
    ⟨⟨rfl, rfl⟩, _, _, .noCode, rfl, ?_, .inr ⟨rfl, .inr (.inr ⟨rfl, rfl⟩)⟩⟩, ?_, ?_⟩
  · simp only [List.mem_cons, List.not_mem_nil, or_false] at hp
    rcases hp with rfl | rfl | rfl | rfl | rfl | rfl | rfl <;>
      exact ⟨⟨rfl, rfl⟩, _, _, .endOfInput, rfl, by decide +kernel, .inl ⟨rfl, rfl, by decide⟩⟩
  all_goals decide +kernel

/-- A header that passes, and one for each check: 789D; 7918, whose method is 9; 881C, whose window is 8; 7820. -/
theorem witness_ZlibHeaderChecksInOrder :
    ((0x78 * 256 + 0x9C) % 31 = 0 ∧ (0x78 : Byte) &&& 0x0F = 8 ∧ ((0x78 : Byte) >>> 4).toNat ≤ 7 ∧
      (0x9C : Byte).getLsbD 5 = false) ∧
    (0x78 * 256 + 0x9D) % 31 ≠ 0 ∧
    ((0x79 * 256 + 0x18) % 31 = 0 ∧ (0x79 : Byte) &&& 0x0F ≠ 8) ∧
    ((0x88 * 256 + 0x1C) % 31 = 0 ∧ (0x88 : Byte) &&& 0x0F = 8 ∧ 7 < ((0x88 : Byte) >>> 4).toNat) ∧
    ((0x78 * 256 + 0x20) % 31 = 0 ∧ (0x20 : Byte).getLsbD 5 = true) := by decide

/-- All that is there, in a raw and in a zlib run; one byte too few; a wrong complement; three bytes only. -/
theorem witness_StoredBlockCopiesItsBytes :
    let s := at' .block { src [0x01, 0x01, 0x00, 0xFE, 0xFF, 0x61] with bitPos := 3 }
    (s.eng.inflate.zlib = false ∧ (InflateRegs.init true).zlib = true ∧ 2 + (0xFD + 256 * 0xFF) = 65535 ∧
      [0x61].length < 2 ∧ overCap s.cfg (0 + [0x61].length) = false) ∧
    (s.eng.src.drop 1 = [0x01, 0x00, 0xFE, 0xFF] ++ [0x61] ∧ 1 + (0xFE + 256 * 0xFF) = 65535 ∧ 1 ≤ [0x61].length ∧
      overCap s.cfg 1 = false) ∧
    1 + (0xFF + 256 * 0xFF) ≠ 65535 ∧ ([0x01, 0x01, 0x00, 0xFE].drop 1).length < 4 := by decide

/-- The most lengths allowed, with four three-bit lengths 1, 1, 0, 0; and one length more. -/
theorem witness_DynamicHeaderBuildsTheLengthCode :
    (29 + 257 ≤ 286 ∧ 29 + 1 ≤ 30) ∧
    (∃ rest, (streamL [0x09, 0x00]).drop 0 = [1, 1, 0, 0].flatMap (bitsL 3) ++ rest) ∧
    (∃ clt, buildCode .cl ([0, 0, 0, 0, 0, 0, 0, 0, 0, 0, 0, 0, 0, 0, 0, 0, 1, 1, 0]) = .ok clt) ∧ 286 < 30 + 257 :=
  ⟨by decide, ⟨_, rfl⟩, ⟨_, rfl⟩, by decide⟩

/-- Four three-bit lengths that are all 0, three that make too many codes of one bit, and eleven bits only. -/
theorem witness_DynamicHeaderBuildsTheLengthCode_errors :
    (∃ rest, (streamL [0x00, 0x00]).drop 0 = [0, 0, 0, 0].flatMap (bitsL 3) ++ rest) ∧
      buildCode .cl (List.replicate 19 0) = .error .incomplete ∧
      (∃ rest, (streamL [0x49, 0x00]).drop 0 = [1, 1, 1, 0].flatMap (bitsL 3) ++ rest) ∧
      buildCode .cl (List.replicate 16 0 ++ [1, 1, 1]) = .error .oversub ∧
      ((streamL [0x00, 0x00]).drop 5).length < 3 * ((0 : BitVec 4).toNat + 4) :=
  ⟨⟨_, rfl⟩, by decide +kernel, ⟨_, rfl⟩, by decide +kernel, by decide⟩

/-- No length before a copy; 258 lengths without the symbol 256; with it, a literal/length set of three codes of one bit, and
a distance set of two codes of two bits. -/
theorem witness_CodeLengthSymbolsAppend_errors :
    (src []).inflate.lens = [] ∧ repeatOf (List.replicate 257 0) (.clLen 1) = some (1, 1) ∧
      (List.replicate 257 0 ++ List.replicate 1 1).getD 256 0 = 0 ∧
      (List.replicate 254 0 ++ [1, 1, 1] ++ List.replicate 1 1).getD 256 0 ≠ 0 ∧
      buildCode .ll ((List.replicate 254 0 ++ [1, 1, 1] ++ List.replicate 1 1).take 257) = .error .oversub ∧
      (∃ t, buildCode .ll ((List.replicate 255 0 ++ [1, 1, 2] ++ List.replicate 1 2).take 257) = .ok t) ∧
      buildCode .d ((List.replicate 255 0 ++ [1, 1, 2] ++ List.replicate 1 2).drop 257) = .error .incomplete := by
  refine ⟨rfl, by decide +kernel, by decide +kernel, by decide +kernel, by decide +kernel,
    ⟨canonicalTable (List.replicate 255 0 ++ [1, 1]), ?_⟩, by decide +kernel⟩
  decide +kernel

/-- One length before the last; the last of 257 + 1 lengths of which 256 and one other are in use; one too many. -/
theorem witness_CodeLengthSymbolsAppend :
    let lens := List.replicate 255 0 ++ [1, 1]
    repeatOf lens (.clLen 1) = some (1, 1) ∧ lens.length + 1 = 257 + 1 ∧ lens.getD 256 0 ≠ 0 ∧
      buildCode .ll ((lens ++ [1]).take 257) ≠ .error .oversub ∧ (lens.take 256).length + 1 < 257 + 1 ∧
      257 + 1 < lens.length + 3 := by
  refine ⟨rfl, ?_, ?_, ?_, ?_, ?_⟩ <;> decide +kernel

/-- Both tables of those lengths are complete: of the literal/length code and of the one distance. -/
theorem witness_CodeLengthSymbolsAppend_tables :
    (∃ t, buildCode .ll ((List.replicate 255 0 ++ [1, 1, 1]).take 257) = .ok t) ∧
      ∃ t, buildCode .d ((List.replicate 255 0 ++ [1, 1, 1]).drop 257) = .ok t :=
  ⟨⟨canonicalTable (List.replicate 255 0 ++ [1, 1]), by decide +kernel⟩, ⟨canonicalTable [1], by decide +kernel⟩⟩

theorem witness_LiteralsAndBlockEnds :
    let s := at' .llSym (src [])
    let e := at' .llSym { src [] with inflate := { InflateRegs.init true with bfinal := true } }
    overCap s.cfg (s.eng.out.length + 1) = false ∧ s.eng.inflate.bfinal = false ∧ e.eng.inflate.bfinal = true ∧
      e.eng.inflate.zlib = true := by decide

/-- The longest match, and the longest distance: reached by the output, and beyond it. -/
theorem witness_LengthAndDistanceSymbols :
    lengthOf (.len284 31) = some 258 ∧ lengthOf .len257 = some 3 ∧ distanceOf (.dist29 0x1FFF) = some 32768 ∧
      distanceOf .dist1 = some 2 ∧ 2 ≤ [1, 2].length ∧ [1].length < 2 ∧ overCap Config.default (2 + 258) = false := by decide

/-- Two codes of one bit. -/
theorem witness_BuildCodeGivesAPrefixCode :
    (∀ l ∈ [1, 1], l ≤ 15) ∧ ∃ t, buildCode .ll [1, 1] = .ok t := ⟨by decide, ⟨_, rfl⟩⟩

/-- A sum above, below and at 2^15, and the small sets: one code of one bit, and none. -/
theorem witness_BuildCodeGivesAPrefixCode_sums :
    let sum : List Nat → Nat := fun ls => (ls.map fun l => if l = 0 then 0 else 2 ^ (15 - l)).sum
    2 ^ 15 < sum [1, 1, 15] ∧ (sum [2, 1] < 2 ^ 15 ∧ ∃ l ∈ [2, 1], 1 < l) ∧ sum [1, 2, 2] = 2 ^ 15 ∧
      (sum [0, 1] < 2 ^ 15 ∧ ¬ (CodeKind.d = .cl ∨ ∃ l ∈ [0, 1], 1 < l)) ∧
      (sum [] < 2 ^ 15 ∧ ¬ (CodeKind.ll = .cl ∨ ∃ l ∈ ([] : List Nat), 1 < l)) := by decide +kernel

/-- The lengths 3, 3, 1, 2 give the codes 110, 111, 0 and 10, by hand from R202. -/
theorem witness_BuildCodeGivesAPrefixCode_order :
    buildCode .ll [3, 3, 1, 2] = .ok [⟨1, 0, 2⟩, ⟨2, 2, 3⟩, ⟨3, 6, 0⟩, ⟨3, 7, 1⟩] ∧ ∀ l ∈ [3, 3, 1, 2], l ≤ 15 := by
  constructor <;> decide +kernel

/-- A format with a table, and one of the LZW contexts. -/
theorem witness_DecodeInvertsEncode :
    let t : HuffTable := [⟨1, 0, 256⟩, ⟨1, 1, 257⟩]
    formatWf (.llSym t) ∧ Instr.len257.wf = true ∧ encode (.llSym t) .len257 = some [true] ∧
      formatWf (.lzwCode 16 4096 true) ∧ (Instr.lzwRef 4095).wf = true ∧
      encode (.lzwCode 16 4096 true) (.lzwRef 4095) = some (bitsM 16 4095) := by
  refine ⟨⟨by decide, ?_⟩, by decide, by decide, ?_, by decide, by decide⟩
  · simp [codeBegins]
  · exact Nat.le_refl 16

theorem witness_DecodedInstructionsAreWellFormed :
    formatWf (.lzwCode 9 258 false) ∧ decode (.lzwCode 9 258 false) (bitsM 9 258) = .instr (.lzwIllegal 258) 9 := by
  refine ⟨?_, by decide⟩
  show 9 ≤ 16
  decide

/-- A literal before and after the first data code; the last entry; a reference; the code after the last entry; a full
table. -/
theorem witness_LzwDataCodesGrowTheTable :
    let r : LzwRegs := ⟨[[1, 2]], 259, 9, some [1]⟩
    LzwRegs.init.prev = none ∧ (258 ≤ (258 : BitVec 16).toNat ∧ (258 : BitVec 16).toNat < r.nextCode ∧
      r.tab[(258 : BitVec 16).toNat - 258]? = some [1, 2]) ∧ r.prev = some [1] ∧ r.nextCode < 4096 ∧
      4096 ≤ { r with nextCode := 4096 }.nextCode ∧ overCap Config.default (0 + 2) = false ∧
      r.tab[(259 : BitVec 16).toNat - 258]? = none ∧ r.nextCode ≤ (259 : BitVec 16).toNat := by decide

/-- The width grows at 511 and not at 510, and the input that ends. -/
theorem witness_CodeWidthGrowsEarly :
    let s (n : Nat) (b : Bytes) := at' .lzw { src b with lzw := ⟨[], n, 9, none⟩ }
    (running (s 511 [0x00, 0x00]) ∧ 511 = 2 ^ 9 - 1 ∧ 9 < 12 ∧
      decode (.lzwCode 10 511 false) (restM (s 511 [0x00, 0x00])) = .instr (.lzwLit 0) 10) ∧
    (running (s 510 [0x00, 0x00]) ∧ 510 ≠ 2 ^ 9 - 1 ∧
      decode (.lzwCode 9 510 false) (restM (s 510 [0x00, 0x00])) = .instr (.lzwLit 0) 9) ∧
    ((restM (s 510 [0x00])).length < 9 ∧ withinLimits (s 510 [0x00]) 0) := by
  refine ⟨⟨⟨rfl, rfl⟩, by decide, by decide, by decide⟩, ⟨⟨rfl, rfl⟩, by decide, by decide⟩, by decide, rfl, rfl⟩

/-- Both nibbles; the digits of a group, its end below and above 2^32; `z` between groups and inside one. -/
theorem witness_AsciiCharactersBuildTheirBytes :
    hexVal 0x66 = some 15 ∧ (src []).hi = none ∧ { src [] with hi := some 15 }.hi = some 15 ∧
      isA85Digit 0x21 = true ∧ isA85Digit 0x75 = true ∧ 3 < 4 ∧ 85 * 50529026 + (0x75 - 0x21) < 2 ^ 32 ∧
      2 ^ 32 ≤ 85 * (85 ^ 4 - 1) + (0x75 - 0x21) ∧ (src []).ngrp = 0 ∧ { src [] with ngrp := 1 }.ngrp ≠ 0 ∧
      overCap Config.default 4 = false := by decide

/-- The end of an ASCIIHex input, without and with a pending digit. -/
theorem witness_AsciiCharactersBuildTheirBytes_end :
    let s (h : Option (BitVec 4)) : State := { at' .hex { src [0x36] with bytePos := 1, hi := h } with origLen := 1 }
    running (s none) ∧ running (s (some 6)) ∧ (s (some 6)).phase = .hex ∧
      (s (some 6)).eng.src.length ≤ (s (some 6)).eng.bytePos ∧ (s none).eng.hi = none ∧ (s (some 6)).eng.hi = some 6 ∧
      overCap (s (some 6)).cfg 1 = false ∧ withinLimits (s none) 0 ∧ withinLimits (s (some 6)) (0 + 1) := by
  refine ⟨⟨rfl, rfl⟩, ⟨rfl, rfl⟩, rfl, by decide, rfl, rfl, rfl, ⟨rfl, rfl⟩, ?_, ?_⟩ <;> decide +kernel

/-- The end of an ASCII85 input. -/
theorem witness_Ascii85FinalGroup_end :
    let s := at' .a85 { src [0x35] with bytePos := 1, acc := 20, ngrp := 1 }
    running s ∧ s.phase = .a85 ∧ s.eng.src.length ≤ s.eng.bytePos := ⟨⟨rfl, rfl⟩, rfl, by decide⟩

/-- Empty, one digit, two digits, and four digits whose value is too large. -/
theorem witness_Ascii85FinalGroup :
    let s (n acc : Nat) : State := { at' .a85 { src [] with ngrp := n, acc := acc } with origLen := 1 }
    withinLimits (s 0 0) 0 ∧ (s 1 0).eng.ngrp = 1 ∧ ((s 2 0).eng.ngrp = 2 ∧ (0 + 1) * 85 ^ (5 - 2) - 1 < 2 ^ 32 ∧
      withinLimits (s 2 0) (0 + (2 - 1))) ∧ 2 ^ 32 ≤ (85 ^ 4 - 1 + 1) * 85 ^ (5 - 4) - 1 := by
  refine ⟨⟨rfl, rfl⟩, rfl, ⟨rfl, by decide, ?_, ?_⟩, by decide⟩ <;> decide +kernel

/-- The longest literal run that the input still has, and one byte more; a repeat at the last byte, and beyond it. -/
theorem witness_RunLengthBytesExpand :
    let s := at' .rl (src [1, 2])
    ((s.eng.src.drop 0).take ((1 : BitVec 7).toNat + 1)).length = (1 : BitVec 7).toNat + 1 ∧
      ((s.eng.src.drop 0).take ((2 : BitVec 7).toNat + 1)).length < (2 : BitVec 7).toNat + 1 ∧
      (src [1, 2]).src[1]? = some 2 ∧ [1, 2].length ≤ 2 ∧ withinLimits s s.eng.out.length := by
  refine ⟨by decide, by decide, by decide, by decide, rfl, rfl⟩

/-- A RunLength input that ends without RL_EOD. -/
theorem witness_RunLengthBytesExpand_end :
    let s : State := { at' .rl { src [0x00, 7] with bytePos := 2, out := [7] } with origLen := 2 }
    bytesUsedUp .rl s ∧ withinLimits s s.eng.out.length := by
  refine ⟨⟨⟨rfl, rfl⟩, rfl, by decide⟩, ?_, ?_⟩ <;> decide +kernel

/-- The byte 0xF9 written "f9>"; and no byte, ">". -/
theorem witness_HexTextDecodesToItsBytes :
    let s := at' .hex (src [0x66, 0x39, 0x3E])
    running s ∧ s.phase = .hex ∧ hexVal 0x66 = some 15 ∧ hexVal 0x39 = some 9 ∧ (0xF9 : Byte).toNat = 16 * 15 + 9 ∧
      s.eng = { Engine.empty with
        src := ([(0x66, 0x39)] : List (Byte × Byte)).flatMap (fun p => [p.1, p.2]) ++ [0x3E] } ∧
      s.cfg.ws = Config.default.ws ∧ s.cfg.bufCap = none ∧ withinLimits { s with origLen := 1 } 1 := by
  refine ⟨⟨rfl, rfl⟩, rfl, by decide, by decide, by decide, rfl, rfl, rfl, ?_, ?_⟩ <;> decide +kernel

/-- A run inside the row, at its end, beyond it; the first and the second run of HORIZ. -/
theorem witness_FaxRunCodesAddUp :
    let s (u : RunUse) := fax 8 0xFFFFFFFF 0 .faxRun { FaxRegs.init 1 with pos := 2, a0 := 2, use := u }
    ((s .row1d).eng.fax.use = .row1d ∧ (s .row1d).eng.fax.pos + 5 < 8 ∧ (s .row1d).eng.fax.pos + 6 = 8 ∧
      8 < (s .row1d).eng.fax.pos + 7) ∧ (s .horiz1).eng.fax.use = .horiz1 ∧
    ((s (.horiz2 4)).eng.fax.use = .horiz2 4 ∧ 4 + 3 < 8 ∧ 4 + 4 = 8 ∧ 8 < 4 + 5) ∧
    (.wT5, 5) ∈ terminatingCodes ∧ (.xM2560, 2560) ∈ makeUpCodes := by
  refine ⟨by decide, by decide, by decide, ?_, ?_⟩ <;> decide +kernel

/-- b1 = 2: inside the row; b1 = 8: at its end with offset 0, beyond it with offset 1; a position before A0; a pass
inside and at the end. -/
theorem witness_TwoDimensionalModesMoveThePosition :
    let f : FaxRegs := { FaxRegs.init 1 with ref := [2, 5] }
    let g : FaxRegs := { f with a0 := 6 }
    findB 8 f = (2, 5) ∧ (max f.a0 0 ≤ 2 + 0 ∧ (2 : Int) + 0 < 8) ∧ findB 8 g = (8, 8) ∧ (max g.a0 0 ≤ 8 ∧ (8 : Int) + 0 = 8) ∧
      (8 : Int) < 8 + 1 ∧ 2 + (-3) < max f.a0 0 ∧ 5 < 8 ∧ (fax 8 0xFFFFFFFF 0 .faxMode f).j.desc.cK.getLsbD 31 = true ∧
      (fax 8 0 0 .faxMode f).j.desc.cK.getLsbD 31 = false := by decide

/-- A row start: all rows done, and one still to do; aligned in Group 3 and in Group 4, and not aligned where END_OF_LINE
is announced. -/
theorem witness_TwoDimensionalModesMoveThePosition_start :
    let s (k : BitVec 32) (flags : BitVec 5) (rows : BitVec 32) : State :=
      withDesc { (fax 8 k flags .faxRowStart (FaxRegs.init 1)).j.desc with cRows := rows }
        (fax 8 k flags .faxRowStart { FaxRegs.init 1 with rowsDone := [[8]] })
    (running (s 0 9 1) ∧ (s 0 9 1).phase = .faxRowStart ∧ (s 0 9 1).j.desc.cFlags.getLsbD 0 = true ∧
      (s 0 9 1).j.desc.cRows.toNat ≤ (s 0 9 1).eng.fax.rowsDone.length) ∧
    ((s 0 9 2).eng.fax.rowsDone.length < (s 0 9 2).j.desc.cRows.toNat ∧ (s 0 9 2).j.desc.cFlags.getLsbD 3 = true ∧
      (s 0 9 2).j.desc.cFlags.getLsbD 2 = false ∧ (s 0 9 2).cfg.g3TwoD = false ∧ 8 * 1 < 1 + 8) ∧
    ((s 0xFFFFFFFF 8 0).j.desc.cK.getLsbD 31 = true ∧ (s 0xFFFFFFFF 8 0).j.desc.cFlags.getLsbD 0 = false) ∧
    ((s 0 12 0).j.desc.cFlags.getLsbD 2 = true ∧ (s 0 12 0).j.desc.cK.getLsbD 31 = false) :=
  ⟨⟨⟨rfl, rfl⟩, rfl, by decide, by decide⟩, by decide, by decide, by decide⟩

/-- After the EOL codes: Group 4 at the end and before it; Group 3 at the end, after two EOL codes, without a required
one, with no tag and with either tag. -/
theorem witness_TwoDimensionalModesMoveThePosition_eol :
    let s (k : BitVec 32) (flags : BitVec 5) (b : Bytes) (n : Nat) : State :=
      { fax 8 k flags .faxEol (FaxRegs.init 1) with
        cfg := { Config.default with g3TwoD := true }
        eng := { src b with fax := { FaxRegs.init 1 with eols := n, first := false } } }
    (running (s 1 0 [0x80] 1) ∧ (s 1 0 [0x80] 1).phase = .faxEol ∧
      decode (.faxEol false) (restM (s 1 0 [0x80] 1)) = .reject .noCode ∧
      decode (.faxEol false) (restM (s 1 0 [] 0)) = .reject .endOfInput ∧
      decode (.faxEol true) (restM (s 0xFFFFFFFF 0 [0x80] 0)) = .reject .noCode ∧
      decode (.faxEol true) (restM (s 0xFFFFFFFF 0 [] 0)) = .reject .endOfInput) ∧
    (8 * ([] : Bytes).length ≤ 0 ∧ ¬ 8 * ([0x80] : Bytes).length ≤ 0) ∧
    (2 ≤ (s 1 0 [0x80] 2).eng.fax.eols ∧ ¬ 2 ≤ (s 1 0 [0x80] 1).eng.fax.eols) ∧
    ((s 1 4 [0x80] 0).j.desc.cFlags.getLsbD 2 = true ∧ (s 1 4 [0x80] 0).eng.fax.first = false) ∧
    ((s 1 0 [0x80] 1).cfg.g3TwoD = true ∧ 0 < (s 1 0 [0x80] 1).j.desc.cK.toInt ∧
      ¬ 0 < (s 0 0 [0x80] 1).j.desc.cK.toInt) ∧
    ((restM (s 1 0 [0x80] 1)).head? = some true ∧ (restM (s 1 0 [0x40] 1)).head? = some false) :=
  ⟨⟨⟨rfl, rfl⟩, rfl, by decide, by decide, by decide, by decide⟩, by decide, by decide, by decide, by decide, by decide⟩

/-- The first change of the reference line, the next of the other colour, and none. -/
theorem witness_FindBIsTheFirstOppositeChange :
    let f : FaxRegs := { FaxRegs.init 1 with ref := [2, 5] }
    findB 8 f = (2, 5) ∧ findB 8 { f with colour := .black } = (5, 8) ∧ findB 8 { f with a0 := 5 } = (8, 8) := by decide

/-- Rows done; none in the first attempt; none in the second; no columns. -/
theorem witness_FaxStopEndsTheAttempt :
    let s := fax 8 0 0 .faxRun { FaxRegs.init 1 with rowsDone := [[5, 8]] }
    let z := fax 0 0 0 .faxBegin (FaxRegs.init 1)
    s.eng.fax.rowsDone ≠ [] ∧ (rowsToBitmap s.eng.fax.rowsDone 8 1)[0]? = some 0x07 ∧ overCap s.cfg 1 = false ∧
      ((FaxRegs.init 1).rowsDone = [] ∧ (FaxRegs.init 1).attempt = 1) ∧
      ((FaxRegs.init 2).rowsDone = [] ∧ (FaxRegs.init 2).attempt = 2) ∧ z.status.state = .busy ∧ z.moves = [] ∧
      z.phase = .faxBegin ∧ z.j.desc.cColumns = 0 ∧ Config.legal s.cfg = true ∧ 1 < 2 ^ s.cfg.lenBits := by decide +kernel

/-- The begin of attempt 1, and of attempt 2 behind two zero bytes; a replaced engine, whatever it answers. -/
theorem witness_FaxStopEndsTheAttempt_begin :
    let s (n : Nat) : State :=
      { fax 8 0 0 .faxBegin (FaxRegs.init n) with j := { (fax 8 0 0 .faxBegin (FaxRegs.init n)).j with input := [0, 0, 0xB0] } }
    let u : State := { s 1 with cfg := { Config.default with faxEngineReplaced := true } }
    (running (s 1) ∧ (s 1).phase = .faxBegin ∧ (s 1).j.desc.cColumns ≠ 0 ∧ (s 1).eng.fax.attempt = 1 ∧
      (s 1).cfg.faxEngineReplaced = false) ∧
    (running (s 2) ∧ (s 2).eng.fax.attempt = 2 ∧ ([0xB0] : Bytes).head? ≠ some 0 ∧
      (s 2).j.input = [0, 0] ++ [0xB0] ∧ ∀ b ∈ ([0, 0] : Bytes), b = 0) ∧
    (after (step (s 2))).eng.src = [0xB0] ∧
    (running u ∧ u.phase = .faxBegin ∧ u.cfg.faxEngineReplaced = true) :=
  ⟨⟨⟨rfl, rfl⟩, rfl, by decide, rfl, rfl⟩, ⟨⟨rfl, rfl⟩, rfl, by decide, rfl, by decide⟩, by decide +kernel,
    ⟨rfl, rfl⟩, rfl, rfl⟩

/-- A bitmap of one row of 3 pixels, the second black. -/
theorem witness_BitmapPixelsAreTheBlackRuns : rowsToBitmap [[1, 2]] 3 1 = [0x40] := by decide +kernel

/-- For BlackIs1InvertsTheResult and CcittDecodeNeverRaises: a step inside the row, and one that ends the job. -/
theorem witness_BlackIs1InvertsTheResult :
    let s (p : Phase) (b : Bytes) : State :=
      { fax 8 0 0 p { FaxRegs.init 1 with rowsDone := [[5, 8]] } with
        eng := { src b with fax := { FaxRegs.init 1 with rowsDone := [[5, 8]] } } }
    (running (s .faxRun [0xB0]) ∧ (s .faxRun [0xB0]).j.op = .ccittDecode ∧ inFax .faxRun = true ∧
      (s .faxRun [0xB0]).j.desc.cFlags.getLsbD 1 = false ∧ (s .faxRun [0xB0]).cfg.bufCap = none) ∧
    (after (step (s .faxRun [0xB0]))).status.state = .busy ∧ (after (step (s .faxRun []))).status.state = .done ∧
    (after (step (s .faxRun []))).outLen = 1 := by
  refine ⟨⟨⟨rfl, rfl⟩, rfl, rfl, rfl, rfl⟩, ?_, ?_, ?_⟩ <;> decide +kernel

theorem witness_GrayExpandsEveryBit :
    let s : State := { at' .gray (src []) with j := ⟨.ccittGray, [0xA0], [], Descriptor.reset⟩ }
    running s ∧ s.phase = .gray ∧ overCap s.cfg (8 * s.j.input.length) = false ∧ Config.legal s.cfg = true ∧
      8 * s.j.input.length < 2 ^ s.cfg.lenBits ∧ s.j.input[0]? = some 0xA0 :=
  ⟨⟨rfl, rfl⟩, rfl, rfl, by decide, by decide, rfl⟩


end Sys2Proof.Tests.Slice0
end

section
/-! What a step of the block can do, said once. A running job is changed by one unit at a time: a filter stage, the
predictor, the fax engine, and the like. `Acts` lists the four things a unit can do, and says with it that neither the
choice between them nor what is written looks at the host's side of the state (R46). `withHost h s` is a record update,
so every condition of the model on it is by definition the condition on `s`: one case split serves all host sides. -/

namespace Sys2Proof.Machine

open Sys2Proof

/-! ## The units of the block -/

/-- The unit of the block a step of a running job belongs to (R20, R33). -/
inductive JobUnit where
  /-- The commands of the host, which are no step of a running job (R90). -/
  | command
  /-- A filter stage at its beginning: the slot is read (R133). -/
  | filter
  /-- The predictor step at its beginning (R140). -/
  | selector
  /-- Completion (R141). -/
  | complete
  | flate | hex | a85 | rl | lzw | pred | gray | fax
deriving DecidableEq, Repr

/-- The phases a unit goes to. -/
def JobUnit.inside : JobUnit → Phase → Bool
  | .filter, p => inCodec p
  | .flate, .ladder | .flate, .zlibHdr | .flate, .zlibTrailer | .flate, .block | .flate, .dynHdr | .flate, .clSym
  | .flate, .llSym | .flate, .dSym => true
  | .hex, .hex | .a85, .a85 | .rl, .rl | .lzw, .lzw | .gray, .gray => true
  | .selector, .tiffRow | .selector, .pngRow | .pred, .tiffRow | .pred, .pngRow => true
  | .fax, p => inFax p
  | _, _ => false

/-- The units that end with the advance to the next stage (R133, R140). -/
def JobUnit.endsStage : JobUnit → Bool
  | .filter | .selector | .flate | .hex | .a85 | .rl | .lzw | .pred => true
  | .command | .complete | .gray | .fax => false

/-- The units that end a job in DONE (R141, R351, R360). -/
def JobUnit.endsJob : JobUnit → Bool
  | .complete | .gray | .fax => true
  | .command | .filter | .selector | .flate | .hex | .a85 | .rl | .lzw | .pred => false

/-- The unit that a step of a running job belongs to. -/
def stepUnit (s : State) : JobUnit :=
  match s.phase with
  | .orchestrate =>
    if s.stage < s.j.desc.nfilt.toNat then .filter
    else if s.stage = s.j.desc.nfilt.toNat then .selector
    else .complete
  | .ladder | .zlibHdr | .zlibTrailer | .block | .dynHdr | .clSym | .llSym | .dSym => .flate
  | .hex => .hex
  | .a85 => .a85
  | .rl => .rl
  | .lzw => .lzw
  | .tiffRow | .pngRow => .pred
  | .gray => .gray
  | .faxBegin | .faxRowStart | .faxEol | .faxMode | .faxRun => .fax

/-! ## The codec registers -/

/-- The digits of an ASCII85 group are bounded (R45, R290): `a85Wf` as a property of the codec registers. -/
def groupWf (e : Engine) : Prop := e.ngrp ≤ 4 ∧ e.acc < 85 ^ e.ngrp

/-- What a unit may do to the codec registers of the others: it leaves them, or makes them initial with the beginning or
the end of a run (R41 to R45). The bound on an ASCII85 group is kept by every unit, its own codec included; the
clauses on LZW and fax are the frame of those codecs' registers. -/
structure RegsKept (u : JobUnit) (a b : Engine) : Prop where
  group : groupWf a → groupWf b
  lzw : u ≠ .lzw → b.lzw = a.lzw ∨ b.lzw = LzwRegs.init
  fax : u ≠ .fax → b.fax = a.fax ∨ b.fax = FaxRegs.init 1

theorem RegsKept.of_eq {u : JobUnit} {a b : Engine} (hacc : b.acc = a.acc) (hngrp : b.ngrp = a.ngrp)
    (hlzw : b.lzw = a.lzw) (hfax : b.fax = a.fax) : RegsKept u a b :=
  ⟨fun h => by rwa [groupWf, hacc, hngrp], fun _ => .inl hlzw, fun _ => .inl hfax⟩

theorem RegsKept.of_initial {u : JobUnit} {a b : Engine} (hacc : b.acc = 0) (hngrp : b.ngrp = 0)
    (hlzw : b.lzw = LzwRegs.init) (hfax : b.fax = FaxRegs.init 1) : RegsKept u a b :=
  ⟨fun _ => by simp [groupWf, hacc, hngrp], fun _ => .inr hlzw, fun _ => .inr hfax⟩

theorem RegsKept.trans {u : JobUnit} {a b c : Engine} (h : RegsKept u a b) (h' : RegsKept u b c) : RegsKept u a c where
  group := h'.group ∘ h.group
  lzw hu := (h'.lzw hu).elim (fun e => e ▸ h.lzw hu) .inr
  fax hu := (h'.fax hu).elim (fun e => e ▸ h.fax hu) .inr

/-! ## The host's side -/

/-- The state whose job is that of `s` and whose host side is that of `h`: the schedule, the data read, the draws, the
registers and the three spaces. -/
def withHost (h s : State) : State :=
  { s with
    moves := h.moves, hostData := h.hostData, draws := h.draws, inLen := h.inLen, desc := h.desc, flt := h.flt,
    inp := h.inp, out := h.out }

@[simp] theorem withHost_cur (h s : State) : (withHost h s).cur = s.cur := rfl
@[simp] theorem withHost_phase (h s : State) : (withHost h s).phase = s.phase := rfl
@[simp] theorem withHost_eng (h s : State) : (withHost h s).eng = s.eng := rfl

/-- The state with the log flags of `t`, its phase and its codec registers, and all else of `s`. -/
def withInner (t s : State) : State :=
  { s with
    phase := t.phase
    eng := t.eng
    status := { s.status with
      flateStep := t.status.flateStep, flatePartial := t.status.flatePartial, lzwFallback := t.status.lzwFallback,
      ccittRetry := t.status.ccittRetry, ccittWhite := t.status.ccittWhite } }

/-- The state `t` differs from `s` in the log flags, the phase and the codec registers only, as the unit `u` may change
them: it stays where it is or goes to a phase of its own. -/
structure Inner (u : JobUnit) (s t : State) : Prop where
  eq : t = withInner t s
  phase : u.inside t.phase = true ∨ t.phase = s.phase
  regs : RegsKept u s.eng t.eng

/-- What a unit can do to the state `s`, as a function `r` of the host's side: it goes on inside, or ends its stage
(R133), aborts the job (R426), or ends it in DONE (R141). -/
inductive Acts (u : JobUnit) (s : State) (r : State → State) : Prop
  | stays (t : State) (ht : Inner u s t) (hr : ∀ h, r h = withHost h t)
  | advances (o : Bytes) (t : State) (hu : u.endsStage = true) (ht : Inner u s t)
      (hr : ∀ h, r h = nextStage o (withHost h t))
  | aborts (c : Cause) (k : Nat) (t : State) (ht : Inner u s t) (hr : ∀ h, r h = raise c k (withHost h t))
  | finishes (o : Bytes) (t : State) (hu : u.endsJob = true) (ht : Inner u s t)
      (hr : ∀ h, r h = finishJob o (withHost h t))

variable {u : JobUnit} {s t t' : State} {r r' : State → State}

theorem Inner.refl (u : JobUnit) (s : State) : Inner u s s := ⟨rfl, .inr rfl, .of_eq rfl rfl rfl rfl⟩

theorem Inner.trans (h : Inner u s t) (h' : Inner u t t') : Inner u s t' where
  eq := by rw [h'.eq, h.eq]; rfl
  phase := h'.phase.elim .inl fun e => e ▸ h.phase
  regs := h.regs.trans h'.regs

/-- A unit that acts after an inner change acts. -/
theorem Acts.after (ht : Inner u s t) (h : Acts u t r) : Acts u s r := by
  cases h with
  | stays t' ht' hr => exact .stays t' (ht.trans ht') hr
  | advances o t' hu ht' hr => exact .advances o t' hu (ht.trans ht') hr
  | aborts c k t' ht' hr => exact .aborts c k t' (ht.trans ht') hr
  | finishes o t' hu ht' hr => exact .finishes o t' hu (ht.trans ht') hr

/-- A choice by a condition on the job. -/
theorem Acts.ite (c : Prop) [Decidable c] {a b : State → State} (ha : c → Acts u s a) (hb : ¬ c → Acts u s b) :
    Acts u s fun h => if c then a h else b h := by
  by_cases hc : c
  · simpa only [if_pos hc] using ha hc
  · simpa only [if_neg hc] using hb hc

/-- The same acts, written otherwise. -/
theorem Acts.congr (h : Acts u s r) (hr : ∀ h, r' h = r h) : Acts u s r' := by rwa [funext hr]

/-- An inner change alone. -/
theorem Inner.acts (ht : Inner u s t) : Acts u s fun h => withHost h t := .stays t ht fun _ => rfl

/-! ## The inner changes -/

theorem inner_goto {p : Phase} (hp : u.inside p = true) : Inner u s (goto p s) :=
  ⟨rfl, .inl hp, .of_eq rfl rfl rfl rfl⟩

theorem inner_setInflate (f : InflateRegs → InflateRegs) : Inner u s (setInflate f s) :=
  ⟨rfl, .inr rfl, .of_eq rfl rfl rfl rfl⟩

theorem inner_logFlate (n : Nat) (b : Bool) : Inner u s (logFlate n b s) := ⟨rfl, .inr rfl, .of_eq rfl rfl rfl rfl⟩

theorem inner_setStrategy (n : Nat) : Inner u s (setStrategy n s) := ⟨rfl, .inr rfl, .of_eq rfl rfl rfl rfl⟩

theorem inner_alignBits : Inner u s (alignBits s) := ⟨rfl, .inr rfl, .of_eq rfl rfl rfl rfl⟩

theorem inner_setFinal (b : Bool) : Inner u s (setFinal b s) := inner_setInflate _

theorem inner_setLzwFallback : Inner u s (setLzwFallback s) := ⟨rfl, .inr rfl, .of_eq rfl rfl rfl rfl⟩

theorem inner_setCcittWhite : Inner u s (setCcittWhite s) := ⟨rfl, .inr rfl, .of_eq rfl rfl rfl rfl⟩

theorem inner_setCcittRetry : Inner u s (setCcittRetry s) := ⟨rfl, .inr rfl, .of_eq rfl rfl rfl rfl⟩

theorem inner_setFax (f : FaxRegs → FaxRegs) : Inner .fax s (setFax f s) :=
  ⟨rfl, .inr rfl, id, fun _ => .inl rfl, fun h => absurd rfl h⟩

/-- A change of the cursor and of the output. -/
theorem inner_stream (bytePos bitPos : Nat) (out : Bytes) :
    Inner u s { s with eng := { s.eng with bytePos := bytePos, bitPos := bitPos, out := out } } :=
  ⟨rfl, .inr rfl, .of_eq rfl rfl rfl rfl⟩

theorem inner_bitPos (n : Nat) : Inner u s { s with eng := { s.eng with bitPos := n } } := inner_stream _ _ _

theorem inner_bytePos (n : Nat) : Inner u s { s with eng := { s.eng with bytePos := n } } := inner_stream _ _ _

theorem inner_ladder (l : LadderRegs) : Inner u s { s with eng := { s.eng with ladder := l } } :=
  ⟨rfl, .inr rfl, .of_eq rfl rfl rfl rfl⟩

theorem inner_hi (v : Option (BitVec 4)) : Inner u s { s with eng := { s.eng with hi := v } } :=
  ⟨rfl, .inr rfl, .of_eq rfl rfl rfl rfl⟩

/-- The digits of a group, where they are bounded if they were. -/
theorem inner_group (acc ngrp : Nat) (h : groupWf s.eng → ngrp ≤ 4 ∧ acc < 85 ^ ngrp) :
    Inner u s { s with eng := { s.eng with acc := acc, ngrp := ngrp } } :=
  ⟨rfl, .inr rfl, h, fun _ => .inl rfl, fun _ => .inl rfl⟩

theorem inner_lzw (r : LzwRegs) : Inner .lzw s { s with eng := { s.eng with lzw := r } } :=
  ⟨rfl, .inr rfl, id, fun h => absurd rfl h, fun _ => .inl rfl⟩

theorem inner_pred (n : Nat) (p : PredRegs) : Inner u s { s with eng := { s.eng with bytePos := n, pred := p } } :=
  ⟨rfl, .inr rfl, .of_eq rfl rfl rfl rfl⟩

/-- The output `bs` is appended. -/
def appendOut (bs : Bytes) (s : State) : State := { s with eng := { s.eng with out := s.eng.out ++ bs } }

theorem inner_appendOut (bs : Bytes) : Inner u s (appendOut bs s) := inner_stream _ _ _

theorem inner_enterCodec {p : Phase} (hp : u.inside p = true) : Inner u s (enterCodec p s) :=
  ⟨rfl, .inl hp, .of_initial rfl rfl rfl rfl⟩

theorem inner_beginRun (zlib : Bool) (src : Bytes) (n : Nat) : Inner .flate s (beginRun zlib src n s) :=
  ⟨rfl, .inl (by cases zlib <;> rfl), .of_initial rfl rfl rfl rfl⟩

theorem inner_failStrategy (e : IStatus) : Inner .flate s (failStrategy e s) :=
  ⟨rfl, .inl rfl, .of_initial rfl rfl rfl rfl⟩

/-! ## The shared operations -/

theorem raise_acts (c : Cause) (k : Nat) (s : State) : Acts u s fun h => raise c k (withHost h s) :=
  .aborts c k s (.refl u s) fun _ => rfl

theorem raiseCap_acts (k : Nat) (s : State) : Acts u s fun h => raiseCap k (withHost h s) :=
  raise_acts (.capExceeded (s.cfg.bufCap.getD 0)) k s

theorem nextStage_acts (hu : u.endsStage = true) (o : Bytes) (s : State) :
    Acts u s fun h => nextStage o (withHost h s) := .advances o s hu (.refl u s) fun _ => rfl

theorem finishJob_acts (hu : u.endsJob = true) (o : Bytes) (s : State) :
    Acts u s fun h => finishJob o (withHost h s) := .finishes o s hu (.refl u s) fun _ => rfl

/-- The end of a stage: one of the two bomb exceptions, or the next stage (R133). -/
theorem finishStage_acts (hu : u.endsStage = true) (k : Nat) (o : Bytes) (s : State) :
    Acts u s fun h => finishStage k o (withHost h s) :=
  .ite (ratioExceeded s.cfg.ratioCmp o.length s.origLen (effLimits s.j).1 = true)
    (fun _ => raise_acts (.bombRatio o.length s.origLen (effLimits s.j).1) k s) fun _ =>
    .ite (sizeExceeded o.length (effLimits s.j).2 = true)
      (fun _ => raise_acts (.bombSize o.length s.origLen (effLimits s.j).2) k s) fun _ => nextStage_acts hu o s

theorem deliver_acts (hu : u.endsStage = true) (k : Nat) (o : Bytes) (s : State) :
    Acts u s fun h => deliver k o (withHost h s) :=
  .ite (overCap s.cfg o.length = true) (fun _ => raiseCap_acts k s) fun _ => finishStage_acts hu k o s

/-- `emit` aborts at the capacity, or does what comes next with the output appended. -/
theorem emit_acts (k : Nat) (bs : Bytes) (next : State → State)
    (h : Acts u (appendOut bs s) fun h => next (withHost h (appendOut bs s))) :
    Acts u s fun h => emit k bs (withHost h s) next :=
  .ite (overCap s.cfg (s.eng.out.length + bs.length) = true) (fun _ => raiseCap_acts k s) fun _ =>
    .after (inner_appendOut bs) h

/-! ## The Flate ladder and the inflate engine -/

theorem goto_acts {p : Phase} (hp : u.inside p = true) : Acts u s fun h => goto p (withHost h s) :=
  (inner_goto hp).acts

theorem allFailed_acts (s : State) : Acts .flate s fun h => allFailed (withHost h s) :=
  raise_acts (.flateAllFailed s.cur.length s.eng.ladder.e1 s.eng.ladder.e2) 0 s

theorem failStrategy_acts (e : IStatus) (s : State) : Acts .flate s fun h => failStrategy e (withHost h s) :=
  (inner_failStrategy e).acts

theorem beginRun_acts (zlib : Bool) (src : Bytes) (n : Nat) (s : State) :
    Acts .flate s fun h => beginRun zlib src n (withHost h s) := (inner_beginRun zlib src n).acts

theorem scanNext_acts (s : State) : Acts .flate s fun h => scanNext (withHost h s) :=
  .ite (20 < nextOffset s.eng.ladder.off) (fun _ => allFailed_acts s) fun _ =>
    .after (inner_ladder { s.eng.ladder with off := nextOffset s.eng.ladder.off })
      (beginRun_acts false s.cur (nextOffset s.eng.ladder.off) _)

/-- The end of a run: its output ends the stage, or the ladder goes on (R162, R163). -/
theorem runEnd_acts (e : IStatus) (s : State) : Acts .flate s fun h => runEnd e (withHost h s) :=
  .ite (s.eng.ladder.step = 7)
    (fun _ => .ite (hasTextOp s.eng.out = true)
      (fun _ => .after (inner_logFlate 7 (decide (e ≠ .ok))) (finishStage_acts rfl 0 s.eng.out _))
      fun _ => scanNext_acts s)
    fun _ => .ite (s.eng.out ≠ [] ∨ (e = .ok ∧ s.cfg.acceptCleanEmpty = true))
      (fun _ => .after (inner_logFlate s.eng.ladder.step (decide (e ≠ .ok))) (finishStage_acts rfl 0 s.eng.out _))
      fun _ => failStrategy_acts (ladderError e) s

/-- A strategy that is a function: its answer ends the stage, or the strategy fails (R167, R168). -/
theorem alternative_acts (n : Nat) (present : Bool) (f : Bytes → Option Bytes) (s : State) :
    Acts .flate s fun h => alternative n present f (withHost h s) := by
  match hx : if present then f s.cur else none with
  | none => exact (failStrategy_acts .empty s).congr fun h => by simp [alternative, hx]
  | some [] => exact (failStrategy_acts .empty s).congr fun h => by simp [alternative, hx]
  | some (b :: o) =>
    refine .congr (.ite (overCap s.cfg (b :: o).length = true) (fun _ => raiseCap_acts 0 s) fun _ =>
      .after (inner_logFlate n false) (finishStage_acts rfl 0 (b :: o) _)) fun h => ?_
    simp only [alternative, withHost_cur, hx]
    rfl

/-- The end of a block: the trailer, the end of the run, or the next block (R198). -/
theorem blockEnd_acts (s : State) : Acts .flate s fun h => blockEnd (withHost h s) :=
  .ite (s.eng.inflate.bfinal = true)
    (fun _ => .ite (s.eng.inflate.zlib = true) (fun _ => .after inner_alignBits (goto_acts rfl)) fun _ =>
      runEnd_acts .ok s)
    fun _ => goto_acts rfl

theorem tablesReady_acts (s : State) : Acts .flate s fun h => tablesReady (withHost h s) := by
  refine .ite (s.eng.inflate.lens.getD 256 0 = 0) (fun _ => runEnd_acts .noEob s) fun _ => ?_
  simp only [withHost_eng]
  cases buildCode .ll (s.eng.inflate.lens.take s.eng.inflate.hlit) with
  | error e => exact runEnd_acts e s
  | ok ll =>
    cases buildCode .d (s.eng.inflate.lens.drop s.eng.inflate.hlit) with
    | error e => exact runEnd_acts e s
    | ok dd => exact .after (inner_setInflate fun r => { r with ll := ll, dd := dd }) (goto_acts rfl)

theorem addLengths_acts (v n : Nat) (s : State) : Acts .flate s fun h => addLengths v n (withHost h s) :=
  .ite (s.eng.inflate.hlit + s.eng.inflate.hdist < s.eng.inflate.lens.length + n)
    (fun _ => runEnd_acts .badRepeat s) fun _ =>
    .after (inner_setInflate fun r => { r with lens := r.lens ++ List.replicate n v })
      (.ite (s.eng.inflate.lens.length + n = s.eng.inflate.hlit + s.eng.inflate.hdist)
        (fun _ => tablesReady_acts _) fun _ => goto_acts rfl)

theorem matchLength_acts (n : Nat) (s : State) : Acts .flate s fun h => matchLength n (withHost h s) :=
  .after (inner_setInflate fun r => { r with matchLen := n }) (goto_acts rfl)

theorem matchDistance_acts (d : Nat) (s : State) : Acts .flate s fun h => matchDistance d (withHost h s) :=
  .ite (s.eng.out.length < d) (fun _ => runEnd_acts .dist s) fun _ =>
    .ite (overCap s.cfg (s.eng.out.length + s.eng.inflate.matchLen) = true) (fun _ => raiseCap_acts 0 s) fun _ =>
      .after (inner_stream s.eng.bytePos s.eng.bitPos (copyMatch d s.eng.inflate.matchLen s.eng.out)) (goto_acts rfl)

theorem storedData_acts (n : Nat) (data : Bytes) (s : State) :
    Acts .flate s fun h => storedData n data (withHost h s) :=
  emit_acts 0 (data.take n) _ <|
    .after (inner_bitPos (s.eng.bitPos + 8 * (data.take n).length)) <|
      .ite (data.length < n) (fun _ => runEnd_acts .eof _) fun _ => blockEnd_acts _

theorem storedBlock_acts (s : State) : Acts .flate s fun h => storedBlock (withHost h s) := by
  simp only [storedBlock, withHost_eng]
  generalize s.eng.src.drop (s.eng.bitPos / 8) = b
  match b with
  | [] | [_] | [_, _] | [_, _, _] => exact runEnd_acts .eof s
  | l0 :: l1 :: n0 :: n1 :: data =>
    exact .ite _ (fun _ => runEnd_acts .storedLen s) fun _ =>
      .after (inner_bitPos (s.eng.bitPos + 32)) (storedData_acts _ data _)

/-! ## The simple codecs -/

theorem hexEnd_acts (s : State) : Acts .hex s fun h => hexEnd (withHost h s) := by
  simp only [hexEnd, withHost_eng]
  cases s.eng.hi with
  | none => exact finishStage_acts rfl 1 s.eng.out s
  | some v =>
    exact emit_acts 1 [BitVec.ofNat 8 (16 * v.toNat)] _
      (finishStage_acts rfl 1 (appendOut [BitVec.ofNat 8 (16 * v.toNat)] s).eng.out _)

/-- `emitGroup` aborts, or does what comes next with the group out and its digits cleared. -/
theorem emitGroup_acts (k v : Nat) (next : State → State)
    (h : ∀ t : State, Acts u t fun h => next (withHost h t)) :
    Acts u s fun h => emitGroup k v (withHost h s) next :=
  .ite (2 ^ 32 ≤ v) (fun _ => raise_acts .a85Overflow 2 s) fun _ =>
    emit_acts 2 (groupBytes k v) _ (.after (inner_group 0 0 (by simp)) (h _))

theorem a85End_acts (s : State) : Acts .a85 s fun h => a85End (withHost h s) :=
  .ite (s.eng.ngrp = 0) (fun _ => finishStage_acts rfl 2 s.eng.out s) fun _ =>
    .ite (s.eng.ngrp = 1) (fun _ => raise_acts .a85LoneChar 2 s) fun _ =>
      emitGroup_acts (s.eng.ngrp - 1) (padGroup (5 - s.eng.ngrp) s.eng.acc) _ fun t =>
        finishStage_acts rfl 2 t.eng.out t

theorem lzwInvalid_acts (c : Nat) (s : State) : Acts u s fun h => lzwInvalid c (withHost h s) :=
  raise_acts (.lzwInvalidCode c s.eng.lzw.nextCode) 3 s

theorem lzwData_acts (str : Bytes) (s : State) : Acts .lzw s fun h => lzwData str (withHost h s) :=
  emit_acts 3 str _ (inner_lzw (lzwInsert str s.eng.lzw)).acts

/-! ## The predictor -/

theorem badParams_acts (selector : Nat) (s : State) : Acts u s fun h => badParams selector (withHost h s) :=
  raise_acts (.predBadParams selector s.j.desc.columns.toNat s.j.desc.colors.toNat s.j.desc.bpc.toNat) 8 s

theorem enterPredictor_acts {p : Phase} (hp : JobUnit.selector.inside p = true) (selector row : Nat)
    (implied : Option Nat) (s : State) :
    Acts .selector s fun h => enterPredictor selector row implied p (withHost h s) :=
  .ite (legalGeometry s.j.desc = false) (fun _ => badParams_acts selector s) fun _ =>
    .ite (s.cur.length % row ≠ 0) (fun _ => raise_acts (.predRowMismatch s.cur.length row) 8 s) fun _ =>
      .stays
        { s with
          phase := p
          eng := { Engine.empty with
            src := s.cur, pred := ⟨List.replicate (pixelBytes s.j.desc) 0, implied, 0⟩ } }
        ⟨rfl, .inl hp, .of_initial rfl rfl rfl rfl⟩ fun _ => rfl

theorem finishRow_acts (row : Bytes) (p : PredRegs) (s : State) :
    Acts .pred s fun h => finishRow row p (withHost h s) :=
  emit_acts 8 row _ (inner_pred (s.eng.bytePos + pixelBytes s.j.desc) p).acts

theorem pngRowWith_acts (tag : Nat) (s : State) : Acts .pred s fun h => pngRowWith tag (withHost h s) :=
  finishRow_acts (pngDecodeRow tag (bytesPerPixel s.j.desc) s.eng.pred.prevRow [] (rowBytes s))
    { s.eng.pred with
      prevRow := pngDecodeRow tag (bytesPerPixel s.j.desc) s.eng.pred.prevRow [] (rowBytes s)
      row := s.eng.pred.row + 1 } s

/-! ## CCITT and fax -/

theorem finishBitmap_acts (hu : u.endsJob = true) (bm : Bytes) (s : State) :
    Acts u s fun h => finishBitmap bm (withHost h s) :=
  .ite (overCap s.cfg bm.length = true) (fun _ => raiseCap_acts 6 s) fun _ =>
    finishJob_acts hu (invertBitmap (blackIs1 s.j.desc) bm) s

theorem finishRows_acts (trs : List (List Nat)) (s : State) :
    Acts .fax s fun h => finishRows trs (withHost h s) :=
  finishBitmap_acts rfl (rowsToBitmap trs (faxColumns s) ((ccittRows s.j.desc).getD trs.length)) s

/-- The end of an attempt: the rows, the retry, or white (R355 to R357). -/
theorem attemptEnd_acts (trs : List (List Nat)) (s : State) :
    Acts .fax s fun h => attemptEnd trs (withHost h s) :=
  .ite (trs = [])
    (fun _ => .ite (s.eng.fax.attempt = 1)
      (fun _ => .after inner_setCcittRetry (.after (inner_setFax fun _ => FaxRegs.init 2) (goto_acts rfl)))
      fun _ => .after inner_setCcittWhite (finishRows_acts [] _))
    fun _ => finishRows_acts trs s

theorem faxStop_acts (s : State) : Acts .fax s fun h => faxStop (withHost h s) :=
  attemptEnd_acts s.eng.fax.rowsDone s

theorem rowDone_acts (t : List Nat) (s : State) : Acts .fax s fun h => rowDone t (withHost h s) :=
  .after (inner_setFax fun f => { f with rowsDone := f.rowsDone ++ [t], ref := t }) (goto_acts rfl)

theorem continue2D_acts (s : State) : Acts .fax s fun h => continue2D (withHost h s) :=
  .ite (s.eng.fax.a0 < (faxColumns s : Int)) (fun _ => goto_acts rfl) fun _ => rowDone_acts s.eng.fax.t s

theorem vertical_acts (d : Int) (s : State) : Acts .fax s fun h => vertical d (withHost h s) :=
  .ite ((faxColumns s : Int) < (findB (faxColumns s) s.eng.fax).1 + d ∨
      ((findB (faxColumns s) s.eng.fax).1 : Int) + d < (a0Pos s.eng.fax : Int))
    (fun _ => faxStop_acts s) fun _ =>
    .after (inner_setFax fun f =>
      { f with
        t := f.t ++ [((findB (faxColumns s) s.eng.fax).1 + d : Int).toNat]
        a0 := (findB (faxColumns s) s.eng.fax).1 + d, colour := otherColour f.colour }) (continue2D_acts _)

theorem runComplete_acts (run : Nat) (s : State) : Acts .fax s fun h => runComplete run (withHost h s) := by
  simp only [runComplete, withHost_eng]
  cases s.eng.fax.use with
  | row1d =>
    exact .ite (faxColumns s < s.eng.fax.pos + run) (fun _ => faxStop_acts s) fun _ =>
      .ite (s.eng.fax.pos + run < faxColumns s)
        (fun _ => .after (inner_setFax fun f =>
          { f with pos := f.pos + run, t := f.t ++ [f.pos + run], colour := otherColour f.colour, total := 0 })
          (goto_acts rfl))
        fun _ => rowDone_acts (s.eng.fax.t ++ [s.eng.fax.pos + run]) s
  | horiz1 => exact .after (inner_setFax fun f => { f with use := .horiz2 (a0Pos f + run), total := 0 }) (goto_acts rfl)
  | horiz2 a1 =>
    exact .ite (faxColumns s < a1 + run) (fun _ => faxStop_acts s) fun _ =>
      .after (inner_setFax fun f => { f with t := f.t ++ [a1, a1 + run], a0 := ((a1 + run : Nat) : Int) })
        (continue2D_acts _)

theorem makeUp_acts (n : Nat) (s : State) : Acts .fax s fun h => makeUp n (withHost h s) :=
  (inner_setFax fun f => { f with total := f.total + n }).acts

theorem terminating_acts (n : Nat) (s : State) : Acts .fax s fun h => terminating n (withHost h s) :=
  runComplete_acts (s.eng.fax.total + n) s

theorem beginRow1D_acts (s : State) : Acts .fax s fun h => beginRow1D (withHost h s) :=
  .after (inner_setFax fun f => { f with t := [], pos := 0, colour := .white, total := 0, use := .row1d })
    (goto_acts rfl)

theorem beginRow2D_acts (s : State) : Acts .fax s fun h => beginRow2D (withHost h s) :=
  .after (inner_setFax fun f => { f with t := [], a0 := -1, colour := .white }) (goto_acts rfl)

/-- The beginning of an attempt: the end at once, or the reference engine over fresh registers (R351 to R355). -/
theorem beginAttempt_acts (s : State) : Acts .fax s fun h => beginAttempt (withHost h s) :=
  .ite (faxColumns s = 0) (fun _ => .after inner_setCcittWhite (finishBitmap_acts rfl [] _)) fun _ =>
    .ite (s.cfg.faxEngineReplaced = true)
      (fun _ => attemptEnd_acts (faxEngineRows (attemptInput s) (faxParams s.j.desc)) s) fun _ =>
      .after (t := { s with
          eng := { Engine.empty with src := attemptInput s, fax := FaxRegs.init s.eng.fax.attempt } })
        ⟨rfl, .inr rfl, fun _ => by simp [groupWf, Engine.empty], fun _ => .inr rfl, fun h => absurd rfl h⟩
        (goto_acts rfl)

theorem beginRow_acts (s : State) : Acts .fax s fun h => beginRow (withHost h s) := by
  refine .ite (rowsComplete s = true) (fun _ => attemptEnd_acts s.eng.fax.rowsDone s) fun _ => ?_
  let f : FaxRegs → FaxRegs := fun f => { f with eols := 0 }
  by_cases hc : (byteAlign s.j.desc && (isGroup4 s.j.desc || !announced s)) = true
  · exact .congr (.after (inner_alignBits.trans (inner_setFax f)) (goto_acts (p := .faxEol) rfl)) fun _ =>
      congrArg (goto .faxEol ∘ setFax f) (if_pos hc)
  · exact .congr (.after (inner_setFax f) (goto_acts (p := .faxEol) rfl)) fun _ =>
      congrArg (goto .faxEol ∘ setFax f) (if_neg hc)

theorem beginRowBody_acts (s : State) : Acts .fax s fun h => beginRowBody (withHost h s) := by
  refine .after (inner_setFax fun f => { f with first := false }) <|
    .ite (readsTags s.cfg s.j.desc = true) (fun _ => ?_) fun _ => beginRow1D_acts _
  show Acts _ _ fun h => match fieldM 1 (restM s) with | none => _ | some tag => _
  cases fieldM 1 (restM s) with
  | none => exact faxStop_acts _
  | some tag =>
    exact .after (inner_bitPos (s.eng.bitPos + 1)) <|
      .ite (tag = 1) (fun _ => beginRow1D_acts _) fun _ => beginRow2D_acts _

theorem eolsDone_acts (s : State) : Acts .fax s fun h => eolsDone (withHost h s) :=
  .ite (isGroup4 s.j.desc = true)
    (fun _ => .ite (atEnd s = true) (fun _ => attemptEnd_acts s.eng.fax.rowsDone s) fun _ => beginRow2D_acts s)
    fun _ => .ite ((announced s && endOfLine s.j.desc && decide (s.eng.fax.eols = 0) && !s.eng.fax.first) = true)
      (fun _ => faxStop_acts s) fun _ =>
      .ite (2 ≤ s.eng.fax.eols) (fun _ => attemptEnd_acts s.eng.fax.rowsDone s) fun _ =>
        .ite (atEnd s = true) (fun _ => attemptEnd_acts s.eng.fax.rowsDone s) fun _ => beginRowBody_acts s

end Sys2Proof.Machine
end

section
/-! The instructions, unit by unit (`exec_runs`), and the unit that reads each format (`instrUnit_of_decode`). -/

namespace Sys2Proof.Machine

open Sys2Proof

variable {u : JobUnit} {s t : State} {r : State → State}

/-! ## The instructions -/

/-- The unit an instruction belongs to, by its format (R2, R90 to R108). -/
def instrUnit : Instr → JobUnit
  | .decodeStream | .decodeStreamOpt | .ccittDecode | .ccittGray | .ack => .command
  | .flateDecode | .asciiHexDecode | .ascii85Decode | .lzwDecode | .runLengthDecode | .dctDecode | .ccittFaxDecode
  | .jbig2Decode | .fnameUnknown _ => .filter
  | .predNone | .predTiff | .predPngNone | .predPngSub | .predPngUp | .predPngAvg | .predPngPaeth | .predPngOpt
  | .predIllegal _ => .selector
  | .flateS1 | .flateS2 | .flateS3 | .flateS4 | .flateS5 | .flateS6 | .flateS7 | .zlibHdr _ _ | .zlibTrailer _
  | .blkStored _ | .blkFixed _ | .blkDynamic _ | .blkReserved _ | .dynHdr _ _ _ | .clLen _ | .clCopy _ | .clZero3 _
  | .clZero11 _ | .lit _ | .eob | .llIllegal _ | .dIllegal _ => .flate
  | .len257 | .len258 | .len259 | .len260 | .len261 | .len262 | .len263 | .len264 | .len265 _ | .len266 _ | .len267 _
  | .len268 _ | .len269 _ | .len270 _ | .len271 _ | .len272 _ | .len273 _ | .len274 _ | .len275 _ | .len276 _
  | .len277 _ | .len278 _ | .len279 _ | .len280 _ | .len281 _ | .len282 _ | .len283 _ | .len284 _ | .len285 => .flate
  | .dist0 | .dist1 | .dist2 | .dist3 | .dist4 _ | .dist5 _ | .dist6 _ | .dist7 _ | .dist8 _ | .dist9 _ | .dist10 _
  | .dist11 _ | .dist12 _ | .dist13 _ | .dist14 _ | .dist15 _ | .dist16 _ | .dist17 _ | .dist18 _ | .dist19 _
  | .dist20 _ | .dist21 _ | .dist22 _ | .dist23 _ | .dist24 _ | .dist25 _ | .dist26 _ | .dist27 _ | .dist28 _
  | .dist29 _ => .flate
  | .lzwLit _ | .lzwClear | .lzwEod | .lzwRef _ | .lzwKwkwk | .lzwIllegal _ => .lzw
  | .rlLiteral _ | .rlEod | .rlRepeat _ => .rl
  | .hexWs _ | .hexDigit _ | .hexEod | .hexIllegal _ => .hex
  | .a85Ws _ | .a85Digit _ | .a85Z | .a85Term | .a85Illegal _ => .a85
  | .pngNone | .pngSub | .pngUp | .pngAverage | .pngPaeth | .pngTagIllegal _ | .tiffRow => .pred
  | _ => .fax

/-- An instruction or a step, as a function of the host's side, answers a next state, which is what a unit does. -/
def Runs (u : JobUnit) (s : State) (x : State → Host.Outcome State Fault Refusal) : Prop :=
  ∃ r, Acts u s r ∧ ∀ h, x h = .next (r h)

theorem Acts.runs (h : Acts u s r) : Runs u s fun h => .next (r h) := ⟨r, h, fun _ => rfl⟩

/-- A code that changes nothing. -/
theorem unchanged_acts (s : State) : Acts u s fun h => withHost h s := (Inner.refl u s).acts

theorem lzwDecode_runs (s : State) :
    Runs .filter s fun h => exec .lzwDecode (withHost h s) := by
  match hp : lzwPrimary s with
  | some o =>
    refine ⟨_, deliver_acts rfl 3 o s, fun h => ?_⟩
    show execLzwDecode (withHost h s) = _
    simp only [execLzwDecode, show lzwPrimary (withHost h s) = some o from hp]
  | none =>
    by_cases hc : s.cfg.lzwPrimaryPresent = true
    · refine ⟨_, .after inner_setLzwFallback (inner_enterCodec (p := .lzw) rfl).acts, fun h => ?_⟩
      show execLzwDecode (withHost h s) = _
      simp only [execLzwDecode, show lzwPrimary (withHost h s) = none from hp]
      exact congrArg (fun t => Host.Outcome.next (enterCodec .lzw t)) (if_pos hc)
    · refine ⟨_, (inner_enterCodec (p := .lzw) rfl).acts, fun h => ?_⟩
      show execLzwDecode (withHost h s) = _
      simp only [execLzwDecode, show lzwPrimary (withHost h s) = none from hp]
      exact congrArg (fun t => Host.Outcome.next (enterCodec .lzw t)) (if_neg hc)

theorem zlibHdr_runs (cmf flg : Byte) (s : State) : Runs .flate s fun h => exec (.zlibHdr cmf flg) (withHost h s) := by
  show Runs .flate s fun h => execZlibHdr cmf flg (withHost h s)
  simp only [execZlibHdr]
  cases zlibHeaderError cmf flg with
  | none => exact (goto_acts rfl).runs
  | some e => exact (runEnd_acts e s).runs

theorem zlibTrailer_runs (v : BitVec 32) (s : State) : Runs .flate s fun h => exec (.zlibTrailer v) (withHost h s) :=
  (runEnd_acts (if v.toNat = adler32 s.eng.out then .ok else .adler) s).runs

/-- `DYN_HDR`: too many symbols, the end of the input, a table that is not accepted, or the code lengths (R201). -/
theorem dynHdr_runs (hlit hdist : BitVec 5) (hclen : BitVec 4) (s : State) :
    Runs .flate s fun h => exec (.dynHdr hlit hdist hclen) (withHost h s) := by
  refine (Acts.ite (286 < hlit.toNat + 257 ∨ 30 < hdist.toNat + 1) (fun _ => runEnd_acts .tooMany s) fun _ => ?_).runs
  simp only [withHost_eng]
  cases readTriples (hclen.toNat + 4) ((streamL s.eng.src).drop s.eng.bitPos) with
  | none => exact runEnd_acts .eof s
  | some triples =>
    dsimp only
    cases buildCode .cl (clLengths triples) with
    | error e => exact runEnd_acts e s
    | ok clt =>
      exact .after (inner_bitPos (s.eng.bitPos + 3 * (hclen.toNat + 4))) (.after (inner_setInflate fun r =>
        { r with hlit := hlit.toNat + 257, hdist := hdist.toNat + 1, clt := clt, lens := [] }) (goto_acts rfl))

theorem clCopy_runs (x : BitVec 2) (s : State) : Runs .flate s fun h => exec (.clCopy x) (withHost h s) := by
  show Runs .flate s fun h => execClCopy x (withHost h s)
  simp only [execClCopy, withHost_eng]
  cases s.eng.inflate.lens.getLast? with
  | none => exact (runEnd_acts .badRepeat s).runs
  | some v => exact (addLengths_acts v (3 + x.toNat) s).runs

theorem flateS6_runs (s : State) : Runs .flate s fun h => exec .flateS6 (withHost h s) :=
  (Acts.ite (needsRepair s.cur = true)
    (fun _ => .after (inner_setStrategy 6) (beginRun_acts true (repairHeader s.cur) 0 _)) fun _ =>
    .after (inner_setStrategy 6) (failStrategy_acts .empty _)).runs

theorem lzwRef_runs (c : BitVec 16) (s : State) : Runs .lzw s fun h => exec (.lzwRef c) (withHost h s) := by
  show Runs .lzw s fun h => execLzwRef c (withHost h s)
  simp only [execLzwRef, withHost_eng]
  cases lzwString s.eng.lzw c.toNat with
  | none => exact (lzwInvalid_acts _ s).runs
  | some str => exact (lzwData_acts str s).runs

theorem lzwKwkwk_runs (s : State) : Runs .lzw s fun h => exec .lzwKwkwk (withHost h s) := by
  show Runs .lzw s fun h => execLzwKwkwk (withHost h s)
  simp only [execLzwKwkwk, withHost_eng]
  cases s.eng.lzw.prev with
  | none => exact (lzwInvalid_acts _ s).runs
  | some p =>
    exact (Acts.ite (s.eng.lzw.nextCode < 4096) (fun _ => lzwData_acts (p ++ p.take 1) s) fun _ =>
      lzwInvalid_acts _ s).runs

theorem rlLiteral_runs (n : BitVec 7) (s : State) : Runs .rl s fun h => exec (.rlLiteral n) (withHost h s) :=
  (Acts.ite (s.eng.src.length < s.eng.bytePos + (n.toNat + 1))
    (fun _ => raise_acts (.rlTruncLiteral (n.toNat + 1) (s.eng.src.length - s.eng.bytePos)) 4 s) fun _ =>
    emit_acts 4 ((s.eng.src.drop s.eng.bytePos).take (n.toNat + 1)) _
      (inner_bytePos (s.eng.bytePos + (n.toNat + 1))).acts).runs

theorem rlRepeat_runs (n : BitVec 7) (s : State) : Runs .rl s fun h => exec (.rlRepeat n) (withHost h s) := by
  show Runs .rl s fun h => execRlRepeat n (withHost h s)
  simp only [execRlRepeat, withHost_eng]
  cases s.eng.src[s.eng.bytePos]? with
  | none => exact (raise_acts .rlTruncRepeat 4 s).runs
  | some b =>
    exact (emit_acts 4 (List.replicate (257 - (128 + n.toNat)) b) _ (inner_bytePos (s.eng.bytePos + 1)).acts).runs

theorem hexDigit_runs (c : Byte) (s : State) : Runs .hex s fun h => exec (.hexDigit c) (withHost h s) := by
  show Runs .hex s fun h => execHexDigit c (withHost h s)
  simp only [execHexDigit, withHost_eng]
  cases hexVal c with
  | none => exact (raise_acts (.hexBadChar c) 1 s).runs
  | some v =>
    cases s.eng.hi with
    | none => exact (inner_hi (some v)).acts.runs
    | some w => exact (emit_acts 1 [BitVec.ofNat 8 (16 * w.toNat + v.toNat)] _ (inner_hi none).acts).runs

/-- A digit keeps the bound on its group: it is below 85 (R290). -/
theorem a85Digit_runs (c : Byte) (hc : isA85Digit c = true) (s : State) :
    Runs .a85 s fun h => exec (.a85Digit c) (withHost h s) := by
  have hd : c.toNat - 0x21 < 85 := by simp [isA85Digit] at hc; omega
  refine (Acts.ite (s.eng.ngrp + 1 = 5)
    (fun _ => emitGroup_acts 4 (85 * s.eng.acc + (c.toNat - 0x21)) id unchanged_acts) fun hn =>
    (inner_group (85 * s.eng.acc + (c.toNat - 0x21)) (s.eng.ngrp + 1) fun ⟨hle, hlt⟩ => ⟨by omega, ?_⟩).acts).runs
  rw [Nat.pow_succ]
  omega

theorem a85Z_runs (s : State) : Runs .a85 s fun h => exec .a85Z (withHost h s) :=
  (Acts.ite (s.eng.ngrp ≠ 0) (fun _ => raise_acts .a85ZMidgroup 2 s) fun _ =>
    emit_acts 2 [0, 0, 0, 0] id (unchanged_acts _)).runs

theorem faxEol_runs (fill : Nat) (s : State) : Runs .fax s fun h => exec (.faxEol fill) (withHost h s) :=
  (Acts.ite (isGroup4 s.j.desc = true) (fun _ => attemptEnd_acts s.eng.fax.rowsDone s) fun _ =>
    .after (inner_setFax fun f => { f with eols := f.eols + 1 }) (goto_acts rfl)).runs

/-- Every instruction but the commands of the host answers a next state, which is what its unit does. -/
theorem exec_runs (i : Instr) (hi : instrUnit i ≠ .command) (hd : ∀ c, i = .a85Digit c → isA85Digit c = true)
    (s : State) : Runs (instrUnit i) s fun h => exec i (withHost h s) := by
  match i with
  | .decodeStream | .decodeStreamOpt | .ccittDecode | .ccittGray | .ack => exact absurd rfl hi
  | .flateDecode => exact (Acts.after (inner_enterCodec rfl) (inner_setStrategy 1).acts).runs
  | .asciiHexDecode | .ascii85Decode | .runLengthDecode => exact (inner_enterCodec rfl).acts.runs
  | .lzwDecode => exact lzwDecode_runs s
  | .dctDecode => exact (finishStage_acts rfl 5 s.cur s).runs
  | .ccittFaxDecode => exact (finishStage_acts rfl 6 s.cur s).runs
  | .jbig2Decode => exact (finishStage_acts rfl 7 s.cur s).runs
  | .fnameUnknown _ => exact (raise_acts .unsupported 15 s).runs
  | .predNone => exact (nextStage_acts rfl s.cur s).runs
  | .predTiff => exact (enterPredictor_acts rfl 2 (pixelBytes s.j.desc) none s).runs
  | .predPngNone => exact (enterPredictor_acts rfl 10 (pixelBytes s.j.desc + 1) (some 0) s).runs
  | .predPngSub => exact (enterPredictor_acts rfl 11 (pixelBytes s.j.desc + 1) (some 1) s).runs
  | .predPngUp => exact (enterPredictor_acts rfl 12 (pixelBytes s.j.desc + 1) (some 2) s).runs
  | .predPngAvg => exact (enterPredictor_acts rfl 13 (pixelBytes s.j.desc + 1) (some 3) s).runs
  | .predPngPaeth => exact (enterPredictor_acts rfl 14 (pixelBytes s.j.desc + 1) (some 4) s).runs
  | .predPngOpt => exact (enterPredictor_acts rfl 15 (pixelBytes s.j.desc + 1) none s).runs
  | .predIllegal p => exact (badParams_acts p.toNat s).runs
  | .flateS1 => exact (Acts.after (inner_setStrategy 1) (beginRun_acts true s.cur 0 _)).runs
  | .flateS2 => exact (Acts.after (inner_setStrategy 2) (beginRun_acts false s.cur 0 _)).runs
  | .flateS3 => exact (Acts.after (inner_setStrategy 3) (beginRun_acts false s.cur 2 _)).runs
  | .flateS4 => exact (Acts.after (inner_setStrategy 4) (alternative_acts 4 s.cfg.altInflate4Present _ _)).runs
  | .flateS5 => exact (Acts.after (inner_setStrategy 5) (alternative_acts 5 s.cfg.altInflate5Present _ _)).runs
  | .flateS6 => exact flateS6_runs s
  | .flateS7 =>
    exact (Acts.after (inner_ladder { s.eng.ladder with step := 7, off := 1 }) (beginRun_acts false s.cur 1 _)).runs
  | .zlibHdr cmf flg => exact zlibHdr_runs cmf flg s
  | .zlibTrailer v => exact zlibTrailer_runs v s
  | .blkStored f =>
    exact (Acts.after ((inner_setFinal f).trans inner_alignBits) (storedBlock_acts _)).runs
  | .blkFixed f =>
    exact (Acts.after (inner_setInflate fun r => { r with bfinal := f, ll := fixedLl, dd := fixedDd })
      (goto_acts rfl)).runs
  | .blkDynamic f => exact (Acts.after (inner_setFinal f) (goto_acts rfl)).runs
  | .blkReserved f => exact (Acts.after (inner_setFinal f) (runEnd_acts .btype _)).runs
  | .dynHdr hlit hdist hclen => exact dynHdr_runs hlit hdist hclen s
  | .clLen l => exact (addLengths_acts l.toNat 1 s).runs
  | .clCopy x => exact clCopy_runs x s
  | .clZero3 x => exact (addLengths_acts 0 (3 + x.toNat) s).runs
  | .clZero11 x => exact (addLengths_acts 0 (11 + x.toNat) s).runs
  | .lit b => exact (emit_acts 0 [b] _ (goto_acts rfl)).runs
  | .eob => exact (blockEnd_acts s).runs
  | .llIllegal _ => exact (runEnd_acts .badLlsym s).runs
  | .dIllegal _ => exact (runEnd_acts .badDsym s).runs
  | .len257 | .len258 | .len259 | .len260 | .len261 | .len262 | .len263 | .len264 | .len265 _ | .len266 _ | .len267 _
  | .len268 _ | .len269 _ | .len270 _ | .len271 _ | .len272 _ | .len273 _ | .len274 _ | .len275 _ | .len276 _
  | .len277 _ | .len278 _ | .len279 _ | .len280 _ | .len281 _ | .len282 _ | .len283 _ | .len284 _ | .len285 =>
    exact (matchLength_acts _ s).runs
  | .dist0 | .dist1 | .dist2 | .dist3 | .dist4 _ | .dist5 _ | .dist6 _ | .dist7 _ | .dist8 _ | .dist9 _ | .dist10 _
  | .dist11 _ | .dist12 _ | .dist13 _ | .dist14 _ | .dist15 _ | .dist16 _ | .dist17 _ | .dist18 _ | .dist19 _
  | .dist20 _ | .dist21 _ | .dist22 _ | .dist23 _ | .dist24 _ | .dist25 _ | .dist26 _ | .dist27 _ | .dist28 _
  | .dist29 _ =>
    exact (matchDistance_acts _ s).runs
  | .lzwLit b => exact (lzwData_acts [b] s).runs
  | .lzwClear => exact (inner_lzw LzwRegs.init).acts.runs
  | .lzwEod => exact (finishStage_acts rfl 3 s.eng.out s).runs
  | .lzwRef c => exact lzwRef_runs c s
  | .lzwKwkwk => exact lzwKwkwk_runs s
  | .lzwIllegal c => exact (lzwInvalid_acts c.toNat s).runs
  | .rlLiteral n => exact rlLiteral_runs n s
  | .rlEod => exact (finishStage_acts rfl 4 s.eng.out s).runs
  | .rlRepeat n => exact rlRepeat_runs n s
  | .hexWs _ | .hexEod | .a85Ws _ => exact (unchanged_acts s).runs
  | .hexDigit c => exact hexDigit_runs c s
  | .hexIllegal c => exact (raise_acts (.hexBadChar c) 1 s).runs
  | .a85Digit c => exact a85Digit_runs c (hd c rfl) s
  | .a85Z => exact a85Z_runs s
  | .a85Term => exact (a85End_acts s).runs
  | .a85Illegal c => exact (raise_acts (.a85BadChar c) 2 s).runs
  | .pngNone => exact (pngRowWith_acts 0 s).runs
  | .pngSub => exact (pngRowWith_acts 1 s).runs
  | .pngUp => exact (pngRowWith_acts 2 s).runs
  | .pngAverage => exact (pngRowWith_acts 3 s).runs
  | .pngPaeth => exact (pngRowWith_acts 4 s).runs
  | .pngTagIllegal tag => exact (raise_acts (.predBadTag tag.toNat s.eng.pred.row) 8 s).runs
  | .tiffRow =>
    exact (finishRow_acts (tiffDecodeRow (bytesPerPixel s.j.desc) [] (rowBytes s)) s.eng.pred s).runs
  | .faxV0 | .faxVr1 | .faxVr2 | .faxVr3 | .faxVl1 | .faxVl2 | .faxVl3 => exact (vertical_acts _ s).runs
  | .faxHoriz =>
    exact (Acts.after (inner_setFax fun f => { f with use := .horiz1, total := 0 }) (goto_acts rfl)).runs
  | .faxPass =>
    exact (Acts.after (inner_setFax fun f => { f with a0 := ((findB (faxColumns s) f).2 : Int) })
      (continue2D_acts _)).runs
  | .faxEol fill => exact faxEol_runs fill s
  | .faxModeIllegal _ | .faxRunIllegal _ => exact (faxStop_acts s).runs
  | .wT0 | .wT1 | .wT2 | .wT3 | .wT4 | .wT5 | .wT6 | .wT7 | .wT8 | .wT9 | .wT10 | .wT11 | .wT12 | .wT13 | .wT14
  | .wT15 | .wT16 | .wT17 | .wT18 | .wT19 | .wT20 | .wT21 | .wT22 | .wT23 | .wT24 | .wT25 | .wT26 | .wT27 | .wT28
  | .wT29 | .wT30 | .wT31 | .wT32 | .wT33 | .wT34 | .wT35 | .wT36 | .wT37 | .wT38 | .wT39 | .wT40 | .wT41 | .wT42
  | .wT43 | .wT44 | .wT45 | .wT46 | .wT47 | .wT48 | .wT49 | .wT50 | .wT51 | .wT52 | .wT53 | .wT54 | .wT55 | .wT56
  | .wT57 | .wT58 | .wT59 | .wT60 | .wT61 | .wT62 | .wT63 | .bT0 | .bT1 | .bT2 | .bT3 | .bT4 | .bT5 | .bT6 | .bT7 | .bT8
  | .bT9 | .bT10 | .bT11 | .bT12 | .bT13 | .bT14 | .bT15 | .bT16 | .bT17 | .bT18 | .bT19 | .bT20 | .bT21 | .bT22
  | .bT23 | .bT24 | .bT25 | .bT26 | .bT27 | .bT28 | .bT29 | .bT30 | .bT31 | .bT32 | .bT33 | .bT34 | .bT35 | .bT36
  | .bT37 | .bT38 | .bT39 | .bT40 | .bT41 | .bT42 | .bT43 | .bT44 | .bT45 | .bT46 | .bT47 | .bT48 | .bT49 | .bT50
  | .bT51 | .bT52 | .bT53 | .bT54 | .bT55 | .bT56 | .bT57 | .bT58 | .bT59 | .bT60 | .bT61 | .bT62 | .bT63 =>
    exact (terminating_acts _ s).runs
  | .wM64 | .wM128 | .wM192 | .wM256 | .wM320 | .wM384 | .wM448 | .wM512 | .wM576 | .wM640 | .wM704 | .wM768 | .wM832
  | .wM896 | .wM960 | .wM1024 | .wM1088 | .wM1152 | .wM1216 | .wM1280 | .wM1344 | .wM1408 | .wM1472 | .wM1536
  | .wM1600 | .wM1664 | .wM1728 | .bM64 | .bM128 | .bM192 | .bM256 | .bM320 | .bM384 | .bM448 | .bM512 | .bM576 | .bM640
  | .bM704 | .bM768 | .bM832 | .bM896 | .bM960 | .bM1024 | .bM1088 | .bM1152 | .bM1216 | .bM1280 | .bM1344 | .bM1408
  | .bM1472 | .bM1536 | .bM1600 | .bM1664 | .bM1728 | .xM1792 | .xM1856 | .xM1920 | .xM1984 | .xM2048 | .xM2112
  | .xM2176 | .xM2240 | .xM2304 | .xM2368 | .xM2432 | .xM2496 | .xM2560 =>
    exact (makeUp_acts _ s).runs

/-! ## Which unit an instruction read in a format belongs to -/

/-- The unit that reads a format. -/
def formatUnit : Format → JobUnit
  | .cmd => .command
  | .fname => .filter
  | .pred => .selector
  | .strategy _ | .zlibHdr | .zlibTrailer | .deflateBlk | .dynHdr | .clSym _ _ | .llSym _ | .dSym _ => .flate
  | .lzwCode _ _ _ => .lzw
  | .rlByte => .rl
  | .hexChar _ _ => .hex
  | .a85Char _ => .a85
  | .pngRow _ | .tiffRow => .pred
  | .faxEol _ | .faxMode | .faxRun _ => .fax

/-- A decoded instruction has the property `p`; a rejection has it for nothing. -/
def Decoded.Holds (p : Instr → Prop) : Decoded → Prop
  | .instr i _ => p i
  | .reject _ => True

variable {p : Instr → Prop}

theorem withExtra_holds {w : Nat} {mk : BitVec w → Instr} (h : ∀ v, p (mk v)) (used : Nat) (rest : List Bool) :
    Decoded.Holds p (withExtra w used rest mk) := by
  unfold withExtra
  split
  · trivial
  · exact h _

theorem withExtra_flate {w : Nat} {mk : BitVec w → Instr} (h : ∀ v, instrUnit (mk v) = .flate) (used : Nat)
    (rest : List Bool) : Decoded.Holds (instrUnit · = .flate) (withExtra w used rest mk) := withExtra_holds h used rest

theorem decodeByte_holds {mk : Byte → Instr} (h : ∀ c, p (mk c)) (bs : List Bool) :
    Decoded.Holds p (decodeByte bs mk) := by
  unfold decodeByte
  split
  · trivial
  · exact h _

theorem decodeHuff_holds {mk : Nat → Nat → List Bool → Decoded} (h : ∀ sym n rest, Decoded.Holds p (mk sym n rest))
    (t : HuffTable) (bs : List Bool) : Decoded.Holds p (decodeHuff t bs mk) := by
  unfold decodeHuff
  split
  · exact h _ _ _
  · trivial
  · trivial

/-- A code that `look` knows is one of its answers. -/
theorem readCode_mem {α : Type} (look : Nat → Nat → Option α) (x : α) (n : Nat) :
    ∀ (fuel l c : Nat) (bs : List Bool), readCode look fuel l c bs = .hit x n → ∃ l' c', look l' c' = some x := by
  intro fuel
  induction fuel with
  | zero => intro l c bs h; simp [readCode] at h
  | succ fuel ih =>
    intro l c bs h
    cases bs with
    | nil => simp [readCode] at h
    | cons b bs =>
      cases hl : look (l + 1) (2 * c + b.toNat) with
      | some a => exact ⟨_, _, by simp only [readCode, hl] at h; cases h; exact hl⟩
      | none => exact ih _ _ _ (by simpa only [readCode, hl] using h)

/-- An instruction read by a fax table stands in it. -/
theorem faxLook_mem (t : List FaxCode) (i : Instr) (l c : Nat) (h : faxLook t l c = some i) :
    ∃ e ∈ t, e.instr = i := by
  obtain ⟨e, he, rfl⟩ := Option.map_eq_some_iff.1 h
  exact ⟨e, List.mem_of_find?_eq_some he, rfl⟩

theorem faxRunTab_unit (c : Colour) : ∀ e ∈ faxRunTab c, instrUnit e.instr = .fax := by cases c <;> decide

theorem faxModeTab_unit : ∀ e ∈ faxModeTab, instrUnit e.instr = .fax := by decide

theorem decodeCmd_unit (w : Nat) : Decoded.Holds (instrUnit · = .command) (decodeCmd w) := by
  unfold decodeCmd
  split
  · split <;> rfl
  · split
    · rfl
    · trivial

theorem decodeSlot_unit (slot : Bytes) : instrUnit (decodeSlot slot) = .filter := by
  unfold decodeSlot
  split <;> rfl

theorem decodePred_unit (v : BitVec 32) : instrUnit (decodePred v) = .selector := by
  unfold decodePred
  split <;> rfl

theorem decodeStrategy_unit (n : Nat) : Decoded.Holds (instrUnit · = .flate) (decodeStrategy n) := by
  unfold decodeStrategy
  split <;> trivial

theorem decodeBlk_unit (bs : List Bool) : Decoded.Holds (instrUnit · = .flate) (decodeBlk bs) := by
  unfold decodeBlk
  split <;> trivial

theorem clInstr_unit (noPrev : Bool) (sym used : Nat) (rest : List Bool) :
    Decoded.Holds (instrUnit · = .flate) (clInstr noPrev sym used rest) := by
  unfold clInstr
  split
  · rfl
  · split
    · split
      · rfl
      · exact withExtra_flate (fun _ => rfl) _ _
    · exact withExtra_flate (fun _ => rfl) _ _
    · exact withExtra_flate (fun _ => rfl) _ _
    · trivial

theorem llInstr_unit (sym used : Nat) (rest : List Bool) :
    Decoded.Holds (instrUnit · = .flate) (llInstr sym used rest) := by
  unfold llInstr
  split
  · rfl
  · split <;> first | trivial | exact withExtra_flate (fun _ => rfl) _ _

theorem dInstr_unit (sym used : Nat) (rest : List Bool) :
    Decoded.Holds (instrUnit · = .flate) (dInstr sym used rest) := by
  unfold dInstr
  split <;> first | trivial | exact withExtra_flate (fun _ => rfl) _ _

theorem decodeLzw_unit (next : Nat) (prev : Bool) (c : Nat) : instrUnit (decodeLzw next prev c) = .lzw := by
  unfold decodeLzw
  repeat' split
  all_goals rfl

theorem decodeRl_unit (c : Byte) : instrUnit (decodeRl c) = .rl := by
  unfold decodeRl
  repeat' split
  all_goals rfl

theorem decodeHex_unit (ws : Bytes) (last : Bool) (c : Byte) : instrUnit (decodeHex ws last c) = .hex := by
  unfold decodeHex
  repeat' split
  all_goals rfl

theorem decodeA85_unit (ws : Bytes) (c : Byte) : instrUnit (decodeA85 ws c) = .a85 := by
  unfold decodeA85
  repeat' split
  all_goals rfl

theorem decodeTag_unit (tag : Byte) : instrUnit (decodeTag tag) = .pred := by
  unfold decodeTag
  split <;> rfl

/-- An instruction read in a format belongs to the unit that reads the format. -/
theorem decode_holds_unit (f : Format) (bs : List Bool) :
    Decoded.Holds (instrUnit · = formatUnit f) (decode f bs) := by
  cases f with
  | cmd => simp only [decode]; split; trivial; exact decodeCmd_unit _
  | fname => simp only [decode]; split; trivial; exact decodeSlot_unit _
  | pred => simp only [decode]; split; trivial; exact decodePred_unit _
  | strategy n => exact decodeStrategy_unit n
  | zlibHdr => simp only [decode]; split <;> trivial
  | zlibTrailer => simp only [decode]; split <;> trivial
  | deflateBlk => exact decodeBlk_unit bs
  | dynHdr => simp only [decode]; split <;> trivial
  | clSym t noPrev => exact decodeHuff_holds (clInstr_unit noPrev) t bs
  | llSym t => exact decodeHuff_holds llInstr_unit t bs
  | dSym t => exact decodeHuff_holds dInstr_unit t bs
  | lzwCode width next prev => simp only [decode]; split; trivial; exact decodeLzw_unit _ _ _
  | rlByte => exact decodeByte_holds decodeRl_unit bs
  | hexChar ws last => exact decodeByte_holds (decodeHex_unit ws last) bs
  | a85Char ws => exact decodeByte_holds (decodeA85_unit ws) bs
  | pngRow implied => exact decodeByte_holds (p := (instrUnit · = .pred)) (fun _ => decodeTag_unit _) bs
  | tiffRow => rfl
  | faxEol strict =>
    simp only [decode]
    split
    · trivial
    · split <;> trivial
  | faxMode =>
    simp only [decode]
    split
    · rename_i h
      obtain ⟨l, c, hl⟩ := readCode_mem _ _ _ _ _ _ _ h
      obtain ⟨e, he, rfl⟩ := faxLook_mem _ _ _ _ hl
      exact faxModeTab_unit e he
    · rfl
    · trivial
  | faxRun c =>
    simp only [decode]
    split
    · rename_i h
      obtain ⟨l, c, hl⟩ := readCode_mem _ _ _ _ _ _ _ h
      obtain ⟨e, he, rfl⟩ := faxLook_mem _ _ _ _ hl
      exact faxRunTab_unit _ e he
    · rfl
    · trivial

theorem instrUnit_of_decode {f : Format} {bs : List Bool} {i : Instr} {n : Nat} (h : decode f bs = .instr i n) :
    instrUnit i = formatUnit f := by
  have := decode_holds_unit f bs
  rwa [h] at this

/-- A decoded ASCII85 digit is one (R290). -/
theorem isA85Digit_of_decode {f : Format} {bs : List Bool} {c : Byte} {n : Nat}
    (h : decode f bs = .instr (.a85Digit c) n) : isA85Digit c = true := by
  have hf := instrUnit_of_decode h
  cases f <;> cases hf
  rename_i ws
  have := decodeByte_holds (p := fun i => ∀ c, i = .a85Digit c → isA85Digit c = true) (mk := decodeA85 ws) (by
    intro d c
    unfold decodeA85
    repeat' split
    all_goals intro e; cases e
    assumption) bs
  rw [show decodeByte bs (decodeA85 ws) = _ from h] at this
  exact this c rfl

end Sys2Proof.Machine
end

section
/-! A step of the block, of the host, and of the machine. -/

namespace Sys2Proof.Machine

open Sys2Proof

variable {u : JobUnit} {s t : State} {r : State → State}

/-! ## A step of the block -/

/-- The unit that an event belongs to. -/
def eventUnit : Event → JobUnit
  | .complete => .complete
  | .predDone => .pred
  | .gray => .gray
  | .faxBegin | .faxRowStart => .fax

theorem handleEvent_acts (e : Event) (s : State) : Acts (eventUnit e) s fun h => handleEvent e (withHost h s) := by
  cases e with
  | complete => exact finishJob_acts rfl s.cur s
  | predDone => exact nextStage_acts rfl s.eng.out s
  | gray =>
    exact .ite (overCap s.cfg (grayExpand s.j.input).length = true) (fun _ => raiseCap_acts 6 s) fun _ =>
      finishJob_acts rfl (grayExpand s.j.input) s
  | faxBegin => exact beginAttempt_acts s
  | faxRowStart => exact beginRow_acts s

/-- The codec that stands at the end of its input, or at bits that are no code, ends its run. -/
theorem handleReject_acts (rj : Reject) (s : State) :
    Acts (stepUnit s) s fun h => handleReject rj (withHost h s) := by
  simp only [handleReject, stepUnit, withHost_phase]
  cases s.phase with
  | orchestrate => exact raise_acts .unsupported 15 s
  | ladder => exact allFailed_acts s
  | zlibHdr | zlibTrailer | block | dynHdr | clSym | llSym | dSym => exact runEnd_acts _ s
  | hex => exact hexEnd_acts s
  | a85 => exact a85End_acts s
  | rl => exact finishStage_acts rfl 4 s.eng.out s
  | lzw => exact finishStage_acts rfl 3 s.eng.out s
  | tiffRow | pngRow => exact nextStage_acts rfl s.eng.out s
  | faxEol => exact eolsDone_acts s
  | faxMode | faxRun => exact faxStop_acts s
  | gray | faxBegin | faxRowStart => exact unchanged_acts s

/-- The unit of what the block does next. -/
def wantUnit : Want → JobUnit
  | .code f _ => formatUnit f
  | .event e => eventUnit e

theorem wantUnit_want (s : State) : wantUnit (want s) = stepUnit s := by
  unfold want stepUnit
  cases s.phase with
  | orchestrate =>
    by_cases hlt : s.stage < s.j.desc.nfilt.toNat
    · simp only [if_pos hlt]
      rfl
    · by_cases heq : s.stage = s.j.desc.nfilt.toNat
      · simp only [if_neg hlt, if_pos heq]
        rfl
      · simp only [if_neg hlt, if_neg heq]
        rfl
  | tiffRow | pngRow =>
    dsimp only
    split <;> rfl
  | _ => rfl

theorem prepare_withHost (h s : State) : prepare (withHost h s) = withHost h (prepare s) := by
  unfold prepare
  rw [withHost_phase]
  split <;> rfl

theorem advance_withHost (f : Format) (n : Nat) (h s : State) :
    advance f n (withHost h s) = withHost h (advance f n s) := by cases f <;> rfl

/-- No unit reads the host's side before it chooses what comes next (R46). -/
theorem want_withHost (h s : State) : want (withHost h s) = want s := rfl

theorem inner_prepare (s : State) : Inner (stepUnit s) s (prepare s) := by
  unfold prepare
  split
  · rename_i hp
    rw [show stepUnit s = .lzw by simp [stepUnit, hp]]
    exact inner_lzw _
  · exact .refl _ s

theorem stepUnit_prepare (s : State) : stepUnit (prepare s) = stepUnit s := by
  unfold prepare
  split <;> rfl

theorem inner_advance (f : Format) (n : Nat) (s : State) : Inner u s (advance f n s) := by
  cases f with
  | cmd | fname | pred | strategy => exact .refl u s
  | rlByte | hexChar | a85Char | pngRow | tiffRow => exact inner_bytePos _
  | zlibHdr | zlibTrailer | deflateBlk | dynHdr | clSym | llSym | dSym | lzwCode | faxEol | faxMode | faxRun =>
    exact inner_bitPos _

/-- A step of a running job is never a command of the host. -/
theorem stepUnit_ne_command (s : State) : stepUnit s ≠ .command := by
  unfold stepUnit
  repeat' split
  all_goals decide

/-- A step of the block answers a next state, which is what its unit does, whatever the host's side is. -/
theorem blockStep_runs (s : State) : Runs (stepUnit s) s fun h => blockStep (withHost h s) := by
  have hu := stepUnit_prepare s
  cases hwant : want (prepare s) with
  | event e =>
    have he : eventUnit e = stepUnit (prepare s) := by rw [← wantUnit_want, hwant]; rfl
    refine ⟨_, .after (inner_prepare s) (hu ▸ he ▸ handleEvent_acts e (prepare s)), fun h => ?_⟩
    simp only [blockStep, prepare_withHost, want_withHost, hwant]
  | code f bs =>
    have hf : formatUnit f = stepUnit (prepare s) := by rw [← wantUnit_want, hwant]; rfl
    cases hd : decode f bs with
    | instr i n =>
      have hi : instrUnit i = stepUnit s := by rw [instrUnit_of_decode hd, hf, hu]
      obtain ⟨r, ha, hr⟩ := exec_runs i (hi ▸ stepUnit_ne_command s) (fun c e => isA85Digit_of_decode (e ▸ hd))
        (advance f n (prepare s))
      refine ⟨r, .after ((inner_prepare s).trans (inner_advance f n _)) (hi ▸ ha), fun h => ?_⟩
      simp only [blockStep, prepare_withHost, want_withHost, hwant, hd, advance_withHost]
      exact hr h
    | reject rj =>
      refine ⟨_, .after (inner_prepare s) (hu ▸ handleReject_acts rj (prepare s)), fun h => ?_⟩
      simp only [blockStep, prepare_withHost, want_withHost, hwant, hd]

/-! ## What a step can do -/

/-- What a unit makes of the state `s`: the four cases of `Acts` for the host's side that `s` has. -/
inductive UnitResult (u : JobUnit) (s : State) : State → Prop
  | stays {t : State} (ht : Inner u s t) : UnitResult u s t
  | advances (o : Bytes) {t : State} (hu : u.endsStage = true) (ht : Inner u s t) : UnitResult u s (nextStage o t)
  | aborts (c : Cause) (k : Nat) {t : State} (ht : Inner u s t) : UnitResult u s (raise c k t)
  | finishes (o : Bytes) {t : State} (hu : u.endsJob = true) (ht : Inner u s t) : UnitResult u s (finishJob o t)

/-- An inner change leaves the host's side. -/
theorem Inner.withHost_self (h : Inner u s t) : withHost s t = t := by
  rw [h.eq]
  rfl

theorem Acts.result (h : Acts u s r) : UnitResult u s (r s) := by
  cases h with
  | stays t ht hr => exact hr s ▸ ht.withHost_self.symm ▸ .stays ht
  | advances o t hu ht hr => exact hr s ▸ ht.withHost_self.symm ▸ .advances o hu ht
  | aborts c k t ht hr => exact hr s ▸ ht.withHost_self.symm ▸ .aborts c k ht
  | finishes o t hu ht hr => exact hr s ▸ ht.withHost_self.symm ▸ .finishes o hu ht

theorem blockStep_result (h : blockStep s = .next t) : UnitResult (stepUnit s) s t := by
  obtain ⟨r, ha, hr⟩ := blockStep_runs s
  have hs : blockStep s = .next (r s) := hr s
  rw [hs] at h
  cases h
  exact ha.result

/-- What an access of the host makes of the state `s`. -/
inductive HostResult (s : State) : State → Prop
  | unchanged : HostResult s s
  | starts (op : Op) : HostResult s (startJob op s)
  | acknowledges : HostResult s (acknowledge s)
  | writes (inLen : Word) (desc : Descriptor) : HostResult s { s with inLen := inLen, desc := desc }
  | reads (v : Word) : HostResult s { s with hostData := v, draws := s.draws + 1 }
  | stores (sp : Space) (a : Nat) (b : Byte) : HostResult s (busStore s sp a b)
  | resets : HostResult s (busReset s)

/-- A write of a register changes IN_LEN or a register of the descriptor. -/
theorem busWrite_eq (s : State) (o : Nat) (v : Word) :
    ∃ inLen desc, busWrite s o v = { s with inLen := inLen, desc := desc } := by
  unfold busWrite
  split <;> exact ⟨_, _, rfl⟩

/-- A write of CTRL is a START, an ACK, or nothing (R90). -/
theorem busCtrl_result (s : State) (v : Word) : ∃ t, busCtrl s v = .next t ∧ HostResult s t := by
  have h := decode_holds_unit .cmd (bitsL 64 v.toNat)
  unfold busCtrl
  split
  · rename_i i n hd
    have hi : Decoded.Holds (fun i => ∃ t, exec i s = .next t ∧ HostResult s t) (decode .cmd (bitsL 64 v.toNat)) := by
      simp only [decode, decodeCmd]
      repeat' split
      · trivial
      · exact ⟨_, rfl, .starts _⟩
      · exact ⟨_, rfl, .starts _⟩
      · exact ⟨_, rfl, .starts _⟩
      · exact ⟨_, rfl, .starts _⟩
      · exact ⟨_, rfl, .acknowledges⟩
      · trivial
    rwa [hd] at hi
  · exact ⟨s, rfl, .unchanged⟩

theorem hostMove_result (m : Move) (h : hostMove m s = .next t) :
    (m = .pass ∧ s.status.state = .busy ∧ blockStep s = .next t) ∨ HostResult s t := by
  cases m with
  | pass =>
    simp only [hostMove] at h
    split at h
    · exact .inl ⟨rfl, by assumption, h⟩
    · cases h
      exact .inr .unchanged
  | regWrite o v =>
    simp only [hostMove] at h
    repeat' split at h
    · cases h
    · cases h
    · obtain ⟨t', ht, hr⟩ := busCtrl_result s v
      rw [ht] at h
      cases h
      exact .inr hr
    · cases h
      obtain ⟨inLen, desc, hw⟩ := busWrite_eq s o v
      exact .inr (hw ▸ .writes inLen desc)
  | regRead o =>
    simp only [hostMove] at h
    repeat' split at h
    all_goals cases h
    exact .inr (.reads _)
  | memWrite sp a b =>
    simp only [hostMove] at h
    repeat' split at h
    all_goals cases h
    exact .inr (.stores sp a b)
  | memRead sp a =>
    simp only [hostMove] at h
    split at h <;> cases h
    exact .inr (.reads _)
  | reset =>
    cases h
    exact .inr .resets

/-- The state after the host's next access is taken from the schedule. -/
def dropMove (s : State) : State := { s with moves := s.moves.tail }

/-- A step is a step of the block while BUSY, or an access of the host. -/
theorem step_result (h : step s = .next t) :
    ((dropMove s).status.state = .busy ∧ UnitResult (stepUnit (dropMove s)) (dropMove s) t) ∨
      HostResult (dropMove s) t := by
  unfold step at h
  split at h
  · rename_i m ms hm
    have hs : dropMove s = { s with moves := ms } := by simp only [dropMove, hm, List.tail_cons]
    rw [hs]
    exact (hostMove_result m h).imp_left fun ⟨_, hb, hstep⟩ => ⟨hb, blockStep_result hstep⟩
  · rename_i hm
    have hs : dropMove s = s := by
      rw [dropMove, hm, List.tail_nil, ← hm]
    rw [hs]
    split at h
    · exact .inl ⟨by assumption, blockStep_result h⟩
    · cases h
      exact .inr .unchanged

/-- What an invariant of every step takes: that the schedule does not matter to it, that every unit keeps it, and that
every access of the host keeps it. -/
theorem step_keeps {Inv : State → Prop} (hmoves : ∀ s, Inv s → Inv (dropMove s))
    (hunit : ∀ s t, s.status.state = .busy → UnitResult (stepUnit s) s t → Inv s → Inv t)
    (hhost : ∀ s t, HostResult s t → Inv s → Inv t) (hs : Inv s) (h : step s = .next t) : Inv t :=
  (step_result h).elim (fun ⟨hb, hr⟩ => hunit _ t hb hr (hmoves s hs)) fun hr => hhost _ t hr (hmoves s hs)

theorem step_of_running (hs : running s) : step s = blockStep s := by
  obtain ⟨hm, hb⟩ := hs
  simp only [step, hm, hb, if_true]

theorem running_result (hs : running s) (h : step s = .next t) : UnitResult (stepUnit s) s t :=
  blockStep_result (step_of_running hs ▸ h)

/-! ## What an inner change leaves -/

theorem Inner.hostKept (h : Inner u s t) : hostKept s t := by
  rw [h.eq]
  exact ⟨rfl, rfl, rfl, rfl, rfl, rfl⟩

theorem Inner.jobKept (h : Inner u s t) : jobKept s t := by
  rw [h.eq]
  exact ⟨rfl, rfl, rfl, rfl⟩

theorem Inner.state (h : Inner u s t) : t.status.state = s.status.state := by
  rw [h.eq]
  rfl

theorem Inner.bytesKept (h : Inner u s t) : bytesKept s t := by
  rw [h.eq]
  exact fun sp _ => by cases sp <;> rfl

end Sys2Proof.Machine
end

section
/-! The result of a job depends on the latch and the configuration only (R46). -/

open Sys2Proof Sys2Proof.Machine

namespace Sys2Proof.Machine

variable {s t : State}

/-- Two states in the same run differ in the host's side only. -/
theorem eq_withHost_of_sameRun (h : sameRun s t) : t = withHost t s := by
  obtain ⟨⟨hcfg, hj, hstage, hcur, hlen, hphase, heng⟩, hst, hout, h0, h1, h2, h3⟩ := h
  simp only [withHost, ← hcfg, ← hj, ← hstage, ← hcur, ← hlen, ← hphase, ← heng, ← hst, ← hout, ← h0, ← h1, ← h2,
    ← h3]

theorem sameRun_withHost (h h' s : State) : sameRun (withHost h s) (withHost h' s) :=
  ⟨⟨rfl, rfl, rfl, rfl, rfl, rfl, rfl⟩, rfl, rfl, rfl, rfl, rfl, rfl⟩

/-- An aborted job shows no byte of OUT: OUT_LEN is 0. -/
theorem sameResult_raise (c : Cause) (k : Nat) (h h' s : State) :
    sameResult (raise c k (withHost h s)) (raise c k (withHost h' s)) :=
  ⟨rfl, rfl, rfl, rfl, rfl, rfl, fun _ ha => absurd ha (by simp)⟩

/-- OUT below OUT_LEN is the result of the job, whatever stood in OUT before (R141). -/
theorem readByte_finishJob (o : Bytes) (s : State) (a : Nat) (ha : a < (finishJob o s).outLen.toNat) :
    readByte .out (finishJob o s).out a = o[a]? := by
  have hle : (lenWord s.cfg o.length).toNat ≤ o.length := by
    rw [lenWord, BitVec.toNat_ofNat]
    exact (Nat.mod_le _ _).trans (Nat.mod_le _ _)
  have hlt : a < o.length := Nat.lt_of_lt_of_le ha hle
  show readByte .out (writeBytes .out s.out 0 o) a = _
  rw [readByte_writeBytes, if_pos (by omega), Nat.sub_zero]

theorem sameResult_finishJob (o : Bytes) (h h' s : State) :
    sameResult (finishJob o (withHost h s)) (finishJob o (withHost h' s)) :=
  ⟨rfl, rfl, rfl, rfl, rfl, rfl, fun a ha =>
    (readByte_finishJob o (withHost h' s) a ha).trans (readByte_finishJob o (withHost h s) a ha).symm⟩

end Sys2Proof.Machine

/-- Settles O4: what a unit does is a function of the host's side that only puts that side back (`Acts`). -/
theorem resultDependsOnTheLatchOnly : Obligations.ResultDependsOnTheLatchOnly := by
  unfold Obligations.ResultDependsOnTheLatchOnly
  intro s s' t hs hs' hrun h
  obtain ⟨r, ha, hr⟩ := blockStep_runs s
  have hstep : step s = .next (r s) := (step_of_running hs).trans (hr s)
  have hstep' : step s' = .next (r s') :=
    (step_of_running hs').trans ((congrArg blockStep (eq_withHost_of_sameRun hrun)).trans (hr s'))
  rw [hstep] at h
  cases h
  refine ⟨r s', hstep', ?_⟩
  cases ha with
  | stays t ht hr =>
    rw [hr, hr]
    exact .inl ⟨ht.state.trans hs.2, sameRun_withHost s s' t⟩
  | advances o t _ ht hr =>
    rw [hr, hr]
    exact .inl ⟨ht.state.trans hs.2, sameRun_withHost s s' (nextStage o t)⟩
  | aborts c k t _ hr =>
    rw [hr, hr]
    exact .inr ⟨by simp, sameResult_raise c k s s' t⟩
  | finishes o t _ _ hr =>
    rw [hr, hr]
    exact .inr ⟨nofun, sameResult_finishJob o s s' t⟩

end

section
/-! What every step keeps: the memories, the result registers, the stage counter, the ASCII85 group, and what a running
job writes. -/

namespace Sys2Proof.Machine

open Sys2Proof

variable {u : JobUnit} {s t : State}

/-! ## The memories -/

theorem Inner.memoryWf (h : Inner u s t) (hs : memoryWf s) : memoryWf t := by
  rw [h.eq]
  exact hs

theorem memoryWf_finishJob (o : Bytes) (hs : memoryWf s) : memoryWf (finishJob o s) := by
  obtain ⟨hflt, hinp, hout⟩ := hs
  exact ⟨hflt, hinp, writeBytes_wf .out s.out 0 o hout⟩

theorem memoryWf_of_unit (h : UnitResult u s t) (hs : memoryWf s) : memoryWf t := by
  cases h with
  | stays ht => exact ht.memoryWf hs
  | advances o _ ht => exact ht.memoryWf hs
  | aborts c k ht => exact ht.memoryWf hs
  | finishes o _ ht => exact memoryWf_finishJob o (ht.memoryWf hs)

theorem startJob_memoryWf (op : Op) (hs : memoryWf s) : memoryWf (startJob op s) := by
  obtain ⟨_, h⟩ | ⟨_, t, rfl, ⟨_, h⟩ | ⟨_, h⟩⟩ := startJob_cases op s
  all_goals rw [h]; exact hs

theorem busStore_memoryWf (sp : Space) (a : Nat) (b : Byte) (hs : memoryWf s) : memoryWf (busStore s sp a b) := by
  obtain ⟨hflt, hinp, hout⟩ := hs
  cases sp with
  | flt => exact ⟨writeByte_wf .flt s.flt a b hflt, hinp, hout⟩
  | inp => exact ⟨hflt, writeByte_wf .inp s.inp a b hinp, hout⟩
  | out => exact ⟨hflt, hinp, hout⟩

theorem acknowledge_memoryWf (hs : memoryWf s) : memoryWf (acknowledge s) := by
  obtain ⟨_, h⟩ | ⟨_, _, h⟩ := acknowledge_cases s
  all_goals rw [h]; exact hs

theorem memoryWf_of_host (h : HostResult s t) (hs : memoryWf s) : memoryWf t := by
  cases h with
  | unchanged | writes | reads => exact hs
  | starts op => exact startJob_memoryWf op hs
  | acknowledges => exact acknowledge_memoryWf hs
  | stores sp a b => exact busStore_memoryWf sp a b hs
  | resets => exact ⟨rfl, rfl, rfl⟩

/-! ## The result registers -/

/-- An exception records a class and a code (R421, R426), so the registers agree whatever they held. -/
theorem resultWf_raise (c : Cause) (k : Nat) (s : State) : resultWf (raise c k s) := by
  have hclass : causeClass c ≠ .none := by cases c <;> nofun
  have hcode : causeCode c ≠ 0 := by cases c <;> simp [causeCode]
  exact ⟨fun h => absurd h hclass, fun _ => ⟨rfl, hcode, .inl rfl⟩, fun _ => hclass, fun _ => rfl⟩

/-- A running job has no error class, so all error registers are 0 when it ends in DONE. -/
theorem resultWf_finishJob (o : Bytes) (hb : s.status.state = .busy) (hs : resultWf s) : resultWf (finishJob o s) := by
  obtain ⟨hnone, hsome, -, -⟩ := hs
  have hclass : s.status.eclass = .none := by
    by_contra h
    obtain ⟨-, -, he | hi⟩ := hsome h
    · simp [hb] at he
    · simp [hb] at hi
  exact ⟨hnone, fun h => absurd hclass h, nofun, nofun⟩

theorem Inner.resultWf (h : Inner u s t) (hs : resultWf s) : resultWf t := by
  rw [h.eq]
  exact hs

theorem resultWf_of_unit (hb : s.status.state = .busy) (h : UnitResult u s t) (hs : resultWf s) : resultWf t := by
  cases h with
  | stays ht => exact ht.resultWf hs
  | advances o _ ht => exact ht.resultWf hs
  | aborts c k => exact resultWf_raise c k _
  | finishes o _ ht => exact resultWf_finishJob o (ht.state.trans hb) (ht.resultWf hs)

/-- START clears the result registers (R48), or records the capacity exception. -/
theorem resultWf_startJob (op : Op) (hs : resultWf s) : resultWf (startJob op s) := by
  obtain ⟨_, h⟩ | ⟨_, t, rfl, ⟨_, h⟩ | ⟨_, h⟩⟩ := startJob_cases op s <;> rw [h]
  · exact hs
  · exact resultWf_raise _ 15 _
  · exact ⟨fun _ => ⟨rfl, rfl, rfl, rfl, rfl, rfl, rfl⟩, fun h => absurd rfl h, nofun, fun _ => rfl⟩

/-- ACK leaves ERROR and DONE for IDLE, where an error class may stay. -/
theorem resultWf_acknowledge (hs : resultWf s) : resultWf (acknowledge s) := by
  obtain ⟨_, h⟩ | ⟨_, _, h⟩ := acknowledge_cases s <;> rw [h]
  · obtain ⟨hnone, hsome, -, -⟩ := hs
    refine ⟨hnone, fun hc => ?_, nofun, nofun⟩
    obtain ⟨hout, hcode, -⟩ := hsome hc
    exact ⟨hout, hcode, .inr rfl⟩
  · exact hs

theorem resultWf_busReset (s : State) : resultWf (busReset s) :=
  ⟨fun _ => ⟨rfl, rfl, rfl, rfl, rfl, rfl, rfl⟩, fun h => absurd rfl h, nofun, nofun⟩

theorem resultWf_of_host (h : HostResult s t) (hs : resultWf s) : resultWf t := by
  cases h with
  | unchanged | writes | reads => exact hs
  | starts op => exact resultWf_startJob op hs
  | acknowledges => exact resultWf_acknowledge hs
  | stores sp => cases sp <;> exact hs
  | resets => exact resultWf_busReset s

/-! ## The stage counter -/

/-- The clauses of `stageWf`, for a phase, a latch and a value of STAGE. -/
def placeWf (p : Phase) (j : Latch) (stage : Nat) : Prop :=
  (inCodec p = true → isGeneric j.op = true ∧ stage < j.desc.nfilt.toNat) ∧
    (p = .tiffRow ∨ p = .pngRow → isGeneric j.op = true ∧ stage = j.desc.nfilt.toNat) ∧
    (p = .orchestrate → isGeneric j.op = true ∧ stage ≤ j.desc.nfilt.toNat + 1) ∧
    (inFax p = true → j.op = .ccittDecode ∧ stage = 0) ∧ (p = .gray → j.op = .ccittGray ∧ stage = 0)

theorem stageWf_iff (s : State) : stageWf s ↔ (s.status.state = .busy → placeWf s.phase s.j s.stage) := Iff.rfl

/-- What STAGE is while a unit runs (R33). -/
def unitPlace : JobUnit → Latch → Nat → Prop
  | .filter, j, stage | .flate, j, stage | .hex, j, stage | .a85, j, stage | .rl, j, stage | .lzw, j, stage =>
    isGeneric j.op = true ∧ stage < j.desc.nfilt.toNat
  | .selector, j, stage | .pred, j, stage => isGeneric j.op = true ∧ stage = j.desc.nfilt.toNat
  | .fax, j, stage => j.op = .ccittDecode ∧ stage = 0
  | .gray, j, stage => j.op = .ccittGray ∧ stage = 0
  | .complete, _, _ | .command, _, _ => True

theorem unitPlace_stepUnit (h : placeWf s.phase s.j s.stage) : unitPlace (stepUnit s) s.j s.stage := by
  obtain ⟨hcodec, hpred, horch, hfax, hgray⟩ := h
  unfold stepUnit
  cases hp : s.phase with
  | orchestrate =>
    obtain ⟨hop, -⟩ := horch hp
    dsimp only
    split
    · exact ⟨hop, by assumption⟩
    · split
      · exact ⟨hop, by assumption⟩
      · trivial
  | ladder | zlibHdr | zlibTrailer | block | dynHdr | clSym | llSym | dSym | hex | a85 | rl | lzw =>
    exact hcodec (by rw [hp]; rfl)
  | tiffRow => exact hpred (.inl hp)
  | pngRow => exact hpred (.inr hp)
  | gray => exact hgray hp
  | faxBegin | faxRowStart | faxEol | faxMode | faxRun => exact hfax (by rw [hp]; rfl)

theorem placeWf_codec {p : Phase} {j : Latch} {stage : Nat} (hp : inCodec p = true)
    (h : isGeneric j.op = true ∧ stage < j.desc.nfilt.toNat) : placeWf p j stage := by
  cases p <;> simp_all [placeWf, inCodec, inFax]

theorem placeWf_pred {p : Phase} {j : Latch} {stage : Nat} (hp : p = .tiffRow ∨ p = .pngRow)
    (h : isGeneric j.op = true ∧ stage = j.desc.nfilt.toNat) : placeWf p j stage := by
  rcases hp with rfl | rfl <;> simp_all [placeWf, inCodec, inFax]

theorem placeWf_fax {p : Phase} {j : Latch} {stage : Nat} (hp : inFax p = true)
    (h : j.op = .ccittDecode ∧ stage = 0) : placeWf p j stage := by
  cases p <;> simp_all [placeWf, inCodec, inFax]

/-- STAGE agrees with every phase that the running unit goes to. -/
theorem placeWf_inside {p : Phase} {j : Latch} {stage : Nat} (hp : u.inside p = true) (h : unitPlace u j stage) :
    placeWf p j stage := by
  cases u with
  | filter | flate | hex | a85 | rl | lzw =>
    have hcodec : inCodec p = true := by cases p <;> first | rfl | cases hp
    exact placeWf_codec hcodec h
  | selector | pred =>
    have hrow : p = .tiffRow ∨ p = .pngRow := by cases p <;> first | exact .inl rfl | exact .inr rfl | cases hp
    exact placeWf_pred hrow h
  | fax => exact placeWf_fax hp h
  | gray =>
    obtain rfl : p = .gray := by cases p <;> first | rfl | cases hp
    exact ⟨nofun, nofun, nofun, nofun, fun _ => h⟩
  | command | complete => cases p <;> cases hp

/-- At the end of a stage STAGE is at most NFILT, so that it stays in its range after the advance. -/
theorem placeWf_advance {j : Latch} {stage : Nat} (hu : u.endsStage = true) (h : unitPlace u j stage) :
    placeWf .orchestrate j (stage + 1) := by
  have hle : isGeneric j.op = true ∧ stage ≤ j.desc.nfilt.toNat := by
    cases u with
    | filter | flate | hex | a85 | rl | lzw => exact ⟨h.1, Nat.le_of_lt h.2⟩
    | selector | pred => exact ⟨h.1, Nat.le_of_eq h.2⟩
    | command | complete | gray | fax => cases hu
  exact ⟨nofun, nofun, fun _ => ⟨hle.1, Nat.succ_le_succ hle.2⟩, nofun, nofun⟩

theorem Inner.stageWf (hb : s.status.state = .busy) (h : Inner (stepUnit s) s t) (hs : stageWf s) : stageWf t := by
  obtain ⟨hstage, -, -, hj⟩ := h.jobKept
  refine (stageWf_iff t).2 fun _ => ?_
  rw [hstage, hj]
  rcases h.phase with hp | hp
  · exact placeWf_inside hp (unitPlace_stepUnit (hs hb))
  · rw [hp]
    exact hs hb

theorem stageWf_of_unit (hb : s.status.state = .busy) (h : UnitResult (stepUnit s) s t) (hs : stageWf s) :
    stageWf t := by
  cases h with
  | stays ht => exact ht.stageWf hb hs
  | @advances o t hu ht =>
    obtain ⟨hstage, -, -, hj⟩ := ht.jobKept
    refine (stageWf_iff _).2 fun _ => ?_
    rw [nextStage_phase, nextStage_j, nextStage_stage, hstage, hj]
    exact placeWf_advance hu (unitPlace_stepUnit (hs hb))
  | aborts => exact nofun
  | finishes => exact nofun

/-- A job begins at STAGE 0, in the phase of its operation (R35, R48). -/
theorem stageWf_startJob (op : Op) (hs : stageWf s) : stageWf (startJob op s) := by
  obtain ⟨_, h⟩ | ⟨_, t, rfl, ⟨_, h⟩ | ⟨_, h⟩⟩ := startJob_cases op s <;> rw [h]
  · exact hs
  · exact nofun
  · refine (stageWf_iff _).2 fun _ => ?_
    cases op with
    | decodeStream | decodeStreamOpt => exact ⟨nofun, nofun, fun _ => ⟨rfl, Nat.zero_le _⟩, nofun, nofun⟩
    | ccittDecode => exact ⟨nofun, nofun, nofun, fun _ => ⟨rfl, rfl⟩, nofun⟩
    | ccittGray => exact ⟨nofun, nofun, nofun, nofun, fun _ => ⟨rfl, rfl⟩⟩

theorem stageWf_of_host (h : HostResult s t) (hs : stageWf s) : stageWf t := by
  cases h with
  | unchanged | writes | reads => exact hs
  | starts op => exact stageWf_startJob op hs
  | acknowledges =>
    obtain ⟨_, h⟩ | ⟨_, _, h⟩ := acknowledge_cases s <;> rw [h]
    · exact nofun
    · exact hs
  | stores sp => cases sp <;> exact hs
  | resets => exact nofun

/-! ## The ASCII85 group -/

theorem groupWf_empty : groupWf Engine.empty := ⟨Nat.zero_le 4, Nat.one_pos⟩

theorem a85Wf_of_unit (h : UnitResult u s t) (hs : a85Wf s) : a85Wf t := by
  cases h with
  | stays ht => exact ht.regs.group hs
  | advances | aborts | finishes => exact groupWf_empty

theorem a85Wf_of_host (h : HostResult s t) (hs : a85Wf s) : a85Wf t := by
  cases h with
  | unchanged | writes | reads => exact hs
  | starts op =>
    obtain ⟨_, h⟩ | ⟨_, t, rfl, ⟨_, h⟩ | ⟨_, h⟩⟩ := startJob_cases op s <;> rw [h]
    · exact hs
    · exact groupWf_empty
    · exact groupWf_empty
  | acknowledges =>
    obtain ⟨_, h⟩ | ⟨_, _, h⟩ := acknowledge_cases s <;> rw [h] <;> exact hs
  | stores sp => cases sp <;> exact hs
  | resets => exact groupWf_empty

end Sys2Proof.Machine

open Sys2Proof Sys2Proof.Machine

/-- Settles O11: only the end of a job in DONE and a host write change a memory, each in canonical form. -/
theorem memoryFormKept : Obligations.MemoryFormKept := by
  unfold Obligations.MemoryFormKept
  exact fun s t => step_keeps (fun _ hs => hs) (fun _ _ _ => memoryWf_of_unit) fun _ _ => memoryWf_of_host

/-- Settles O13, over the four results of a unit and the accesses of the host. -/
theorem resultRegistersStayConsistent : Obligations.ResultRegistersStayConsistent := by
  unfold Obligations.ResultRegistersStayConsistent
  exact fun s t => step_keeps (fun _ hs => hs) (fun _ _ => resultWf_of_unit) fun _ _ => resultWf_of_host

/-- Settles O14: the unit that runs determines the range of STAGE (`unitPlace`), and only the end of a stage advances
it. -/
theorem stageCounterStaysInRange : Obligations.StageCounterStaysInRange := by
  unfold Obligations.StageCounterStaysInRange
  refine ⟨fun s t => step_keeps (fun _ hs => hs) (fun _ _ => stageWf_of_unit) fun _ _ => stageWf_of_host, ?_⟩
  intro s t hs h
  cases running_result hs h with
  | stays ht => exact .inl ht.jobKept.1
  | advances o _ ht => exact .inr (congrArg (· + 1) ht.jobKept.1)
  | aborts c k ht => exact .inl ht.jobKept.1
  | finishes o _ ht => exact .inl ht.jobKept.1

/-- Settles O16: every unit keeps the bound (`RegsKept`), since a decoded digit is below 85. -/
theorem ascii85GroupStaysBounded : Obligations.Ascii85GroupStaysBounded := by
  unfold Obligations.Ascii85GroupStaysBounded
  exact fun s t => step_keeps (fun _ hs => hs) (fun _ _ _ => a85Wf_of_unit) fun _ _ => a85Wf_of_host

namespace Sys2Proof.Machine

/-- What a step of a unit never writes: the host's side, the latch, ORIG_LEN, FLT and IN. -/
theorem unit_keeps_program {u : JobUnit} {s t : State} (h : UnitResult u s t) :
    hostKept s t ∧ t.j = s.j ∧ t.origLen = s.origLen ∧ t.flt = s.flt ∧ t.inp = s.inp ∧
      (t.status.state ≠ .done → t.out = s.out) := by
  cases h with
  | stays ht | advances o _ ht | aborts c k ht =>
    rw [ht.eq]
    exact ⟨⟨rfl, rfl, rfl, rfl, rfl, rfl⟩, rfl, rfl, rfl, rfl, fun _ => rfl⟩
  | finishes o _ ht =>
    rw [ht.eq]
    exact ⟨⟨rfl, rfl, rfl, rfl, rfl, rfl⟩, rfl, rfl, rfl, rfl, fun h => absurd rfl h⟩

end Sys2Proof.Machine

/-- Settles O3, over the four results of a unit. -/
theorem jobWritesOnlyItsResult : Obligations.JobWritesOnlyItsResult := by
  unfold Obligations.JobWritesOnlyItsResult
  intro s t hs h
  obtain ⟨hhost, hj, hlen, hflt, hinp, hout⟩ := unit_keeps_program (running_result hs h)
  exact ⟨hhost, hj, hlen, fun a => by rw [hflt], fun a => by rw [hinp], fun hd a => by rw [hout hd]⟩

end

section
/-! The commands of the host, the spaces, the slots of FLT, and reset. -/

namespace Sys2Proof.Machine

open Sys2Proof

variable {s t : State}

/-! ## START and ACK -/

/-- `startJob` below the capacity, field by field (R48). -/
theorem startJob_of_fits (op : Op) (hb : s.status.state ≠ .busy) (hcap : overCap s.cfg s.inLen.toNat = false) :
    startJob op s = { s with
      draws := s.draws + 1, j := latch op s, status := { Status.zero with state := .busy }, outLen := 0, einfo0 := 0,
      einfo1 := 0, einfo2 := 0, einfo3 := 0, stage := 0, cur := latchInput s, origLen := s.inLen.toNat,
      phase := firstPhase op, eng := Engine.empty } := by
  obtain ⟨h, _⟩ | ⟨_, t, rfl, ⟨h, _⟩ | ⟨_, h⟩⟩ := startJob_cases op s
  · exact absurd h hb
  · exact absurd hcap (by simp [h])
  · exact h

/-- `startJob` above the capacity is the capacity exception of the started job (R423). -/
theorem startJob_of_overCap (op : Op) (hb : s.status.state ≠ .busy) (hcap : overCap s.cfg s.inLen.toNat = true) :
    startJob op s = raiseCap 15 { s with
      draws := s.draws + 1, j := latch op s, status := { Status.zero with state := .busy }, outLen := 0, einfo0 := 0,
      einfo1 := 0, einfo2 := 0, einfo3 := 0, stage := 0, cur := latchInput s, origLen := s.inLen.toNat,
      phase := firstPhase op, eng := Engine.empty } := by
  obtain ⟨h, _⟩ | ⟨_, t, rfl, ⟨_, h⟩ | ⟨h, _⟩⟩ := startJob_cases op s
  · exact absurd h hb
  · exact h
  · exact absurd hcap (by simp [h])

@[simp] theorem length_latchInput (s : State) : (latchInput s).length = s.inLen.toNat := by simp [latchInput]

/-- A byte of IN that has a value is latched (R35). -/
theorem latchInput_getElem? {a : Nat} {b : Byte} (ha : a < s.inLen.toNat) (hb : readByte .inp s.inp a = some b) :
    (latchInput s)[a]? = some b := by
  simp [latchInput, ha, hb]

/-- A byte of one of the slots that are latched (R35, R38). -/
theorem latch_flt_getElem? {op : Op} {i k : Nat} {b : Byte} (hi : i < s.desc.nfilt.toNat) (hk : k < 32)
    (hb : readByte .flt s.flt (32 * i + k) = some b) :
    ((latch op s).flt[i]?.bind fun slot => slot[k]?) = some b := by
  simp [latch, fltSlot, hi, hk, hb]

theorem bytesKept_of_eq (hflt : t.flt = s.flt) (hinp : t.inp = s.inp) (hout : t.out = s.out) : bytesKept s t := by
  intro sp a
  cases sp
  · exact congrArg (readByte .flt · a) hflt
  · exact congrArg (readByte .inp · a) hinp
  · exact congrArg (readByte .out · a) hout

/-! ## The host's accesses -/

theorem step_of_moves {m : Move} {ms : List Move} (h : s.moves = m :: ms) :
    step s = hostMove m { s with moves := ms } := by simp only [step, h]

theorem step_memWrite {sp : Space} {a : Nat} {b : Byte} {ms : List Move} (h : s.moves = .memWrite sp a b :: ms)
    (hsp : sp ≠ .out) (ha : hasAddress s.cfg sp a = true) :
    step s = .next (busStore { s with moves := ms } sp a b) := by
  simp only [step_of_moves h, hostMove, if_neg hsp, ha, if_true]

theorem step_memRead {sp : Space} {a : Nat} {ms : List Move} (h : s.moves = .memRead sp a :: ms)
    (ha : hasAddress s.cfg sp a = true) :
    step s = .next { s with
      moves := ms, draws := s.draws + 1, hostData := BitVec.ofNat 64 (busByte s sp a).toNat } := by
  simp only [step_of_moves h, hostMove, ha, if_true]
  rfl

/-- Two steps, one after the other. -/
theorem run_two (h : step s = .next t) {t' : State} (h' : step t = .next t') :
    Host.Core.run Sys2Proof.core 2 s = .next t' := by
  have h : Sys2Proof.core.step s = .next t := h
  have h' : Sys2Proof.core.step t = .next t' := h'
  simp only [Host.Core.run, h, h']

/-- The memory of a space after a host write. -/
theorem spaceMem_busStore (s : State) (sp sp' : Space) (a : Nat) (b : Byte) (hsp : sp ≠ .out) :
    spaceMem (busStore s sp a b) sp' = if sp' = sp then writeByte sp (spaceMem s sp) a b else spaceMem s sp' := by
  cases sp
  · cases sp' <;> rfl
  · cases sp' <;> rfl
  · exact absurd rfl hsp

theorem spaceMem_wf (hs : memoryWf s) (sp : Space) : Memory.wf sp (spaceMem s sp) = true := by
  obtain ⟨hflt, hinp, hout⟩ := hs
  cases sp
  · exact hflt
  · exact hinp
  · exact hout

/-- A byte after a host write: the one written at its address, and the old one elsewhere (R40, R49). -/
theorem readByte_busStore (hs : memoryWf s) {sp : Space} (hsp : sp ≠ .out) (sp' : Space) (a a' : Nat) (b : Byte) :
    readByte sp' (spaceMem (busStore s sp a b) sp') a' =
      if sp' = sp ∧ a' = a then some b else readByte sp' (spaceMem s sp') a' := by
  rw [spaceMem_busStore s sp sp' a b hsp]
  by_cases h : sp' = sp
  · subst h
    simp only [if_true, true_and]
    exact readByte_writeByte sp' _ a a' b (spaceMem_wf hs sp')
  · simp only [h, if_false, false_and]

/-- What a host write of a byte leaves: everything but the byte. -/
theorem busStore_keeps (s : State) (sp : Space) (a : Nat) (b : Byte) :
    (busStore s sp a b).moves = s.moves ∧ (busStore s sp a b).cfg = s.cfg ∧ sameJob s (busStore s sp a b) ∧
      resultKept s (busStore s sp a b) ∧ ∀ o, regValue (busStore s sp a b) o = regValue s o := by
  cases sp <;>
    exact ⟨rfl, rfl, ⟨rfl, rfl, rfl, rfl, rfl, rfl, rfl⟩, ⟨rfl, rfl, rfl, rfl, rfl, rfl⟩, fun _ => rfl⟩

/-- A byte of FLT or IN that has a value is what a host read returns while no job runs (R49). -/
theorem busByte_of_readByte {sp : Space} {a : Nat} {b : Byte} (hsp : sp ≠ .out) (hb : s.status.state ≠ .busy)
    (h : readByte sp (spaceMem s sp) a = some b) : busByte s sp a = b := by
  cases sp
  · simp only [busByte, if_neg hb, show readByte .flt s.flt a = some b from h, Option.getD_some]
  · simp only [busByte, if_neg hb, show readByte .inp s.inp a = some b from h, Option.getD_some]
  · exact absurd rfl hsp

/-- A byte of OUT below OUT_LEN is what a host read returns while no job runs (R49). -/
theorem busByte_out {a : Nat} {b : Byte} (hb : s.status.state ≠ .busy) (ha : a < s.outLen.toNat)
    (h : readByte .out s.out a = some b) : busByte s .out a = b := by
  simp only [busByte, if_neg hb, if_pos ha, h, Option.getD_some]

theorem hasAddress_eq_false {cfg : Config} {sp : Space} {a : Nat}
    (h : (sp = .flt ∧ 32 * cfg.nfiltMax ≤ a) ∨ (sp ≠ .flt ∧ ∃ c, cfg.bufCap = some c ∧ c ≤ a)) :
    hasAddress cfg sp a = false := by
  obtain ⟨rfl, ha⟩ | ⟨hsp, c, hc, ha⟩ := h
  · simpa [hasAddress] using ha
  · cases sp
    · exact absurd rfl hsp
    · simpa [hasAddress, hc] using ha
    · simpa [hasAddress, hc] using ha

/-! ## Slots -/

/-- A slot with one of the eight names decodes to its instruction (R39). -/
theorem decodeSlot_of_name (slot : Bytes) :
    ∀ p ∈ filterNames.zip [.flateDecode, .asciiHexDecode, .ascii85Decode, .lzwDecode, .runLengthDecode, .dctDecode,
        .ccittFaxDecode, .jbig2Decode],
      slotName slot = p.1 → decodeSlot slot = p.2 := by
  simp only [filterNames, List.zip_cons_cons, List.zip_nil_left, List.forall_mem_cons]
  refine ⟨?_, ?_, ?_, ?_, ?_, ?_, ?_, ?_, nofun⟩
  all_goals
    intro h
    simp only [decodeSlot, h]
    rfl

/-- Every other slot decodes to the unknown name (R92). -/
theorem decodeSlot_of_not_mem {slot : Bytes} (h : slotName slot ∉ filterNames) :
    decodeSlot slot = .fnameUnknown slot := by
  have hidx : filterNames.idxOf (slotName slot) = 8 := List.idxOf_eq_length h
  simp only [decodeSlot, hidx]

theorem decode_fname {slot : Bytes} (h : slot.length = 32) :
    decode .fname (streamL slot) = .instr (decodeSlot slot) 256 := by
  have hb : bytesL 32 (streamL slot) = some slot := by
    simpa only [List.append_nil, h] using bytesL_streamL slot []
  simp only [decode, hb]

/-- Outside an LZW run nothing happens before a code is read. -/
theorem prepare_of_ne (h : s.phase ≠ .lzw) : prepare s = s := if_neg h

/-- A step of a running job runs the instruction read where the block wants one. -/
theorem step_of_decode {f : Format} {bs : List Bool} {i : Instr} {used : Nat} (hs : running s)
    (hw : want (prepare s) = .code f bs) (hd : decode f bs = .instr i used) :
    step s = exec i (advance f used (prepare s)) := by
  simp only [step_of_running hs, blockStep, hw, hd]

/-- A step at a stage boundary below NFILT runs the slot that STAGE numbers (R133). -/
theorem step_of_slot {slot : Bytes} (hlen : slot.length = 32) (hs : running s) (hp : s.phase = .orchestrate)
    (hstage : s.stage < s.j.desc.nfilt.toNat) (hslot : s.j.flt[s.stage]? = some slot) :
    step s = exec (decodeSlot slot) s := by
  have hprep : prepare s = s := prepare_of_ne (by simp [hp])
  have hw : want (prepare s) = .code .fname (streamL slot) := by
    simp only [hprep, want, hp, if_pos hstage, List.getD_eq_getElem?_getD, hslot, Option.getD_some]
  rw [step_of_decode hs hw (decode_fname hlen), hprep]
  rfl

/-! ## Reset -/

theorem statusWord_zero (w : Nat) : statusWord w Status.zero = 0 := by
  simp [statusWord, Status.zero, runStateBits, errClassBits]

/-- The registers of the reset state, for every configuration (R47). -/
theorem regValue_busReset (s : State) : ∀ p ∈ resetTable, regValue (busReset s) p.1 = p.2 := by
  refine List.forall_mem_cons.2 ⟨statusWord_zero _, ?_⟩
  simp only [List.forall_mem_cons]
  exact ⟨rfl, rfl, rfl, rfl, rfl, rfl, rfl, rfl, rfl, rfl, rfl, rfl, rfl, rfl, rfl, rfl, rfl, rfl, rfl, nofun⟩

theorem busReset_reset : busReset State.reset = State.reset := rfl

end Sys2Proof.Machine

open Sys2Proof Sys2Proof.Machine

/-- Settles O5: all four commands are `startJob`, below and above the capacity. -/
theorem startLatchesAndAckEndsTheJob : Obligations.StartLatchesAndAckEndsTheJob := by
  unfold Obligations.StartLatchesAndAckEndsTheJob
  refine ⟨?_, ?_, fun s h => ?_⟩
  · intro p hp s hb hcap
    have hexec : exec p.1 s = .next (startJob p.2 s) := by
      fin_cases hp <;> rfl
    refine ⟨_, hexec, ?_⟩
    rw [startJob_of_fits p.2 hb hcap]
    exact ⟨rfl, rfl, rfl, rfl, rfl, rfl, rfl, rfl, (length_latchInput s).symm, rfl, rfl, rfl, rfl, length_latchInput s,
      fun _ _ => latchInput_getElem?, by simp [latch], fun _ _ _ => latch_flt_getElem?, bytesKept_of_eq rfl rfl rfl,
      rfl, rfl, rfl, rfl⟩
  · intro i hi s cap hb hcap hlt
    obtain ⟨op, hexec⟩ : ∃ op, exec i s = .next (startJob op s) := by
      fin_cases hi <;> exact ⟨_, rfl⟩
    refine ⟨_, hexec, ?_⟩
    rw [startJob_of_overCap op hb (by simpa [overCap, hcap] using hlt)]
    refine ⟨?_, rfl, ?_, rfl, rfl, rfl, bytesKept_of_eq rfl rfl rfl, rfl, rfl, rfl, rfl⟩
    · simp [raiseCap, stageWord, causeClass, causeCode, Status.zero]
    · simp [raiseCap, causeInfo, hcap]
  · exact congrArg Host.Outcome.next (if_pos h)

/-- Settles O9, by the rule for a read after a host write (`readByte_busStore`). -/
theorem bufferBytesReadBackWhatWasWritten : Obligations.BufferBytesReadBackWhatWasWritten := by
  unfold Obligations.BufferBytesReadBackWhatWasWritten
  refine ⟨?_, ?_, ?_, fun s a b ms hm => step_of_moves hm, ?_⟩
  · intro s sp a b hsp ha hb hwf hm
    obtain ⟨hmoves, hcfg, -, ⟨hst, -⟩, -⟩ := busStore_keeps { s with moves := [.memRead sp a] } sp a b
    have hread (sp' a') := readByte_busStore (s := { s with moves := [.memRead sp a] }) hwf hsp sp' a a' b
    have hback := busByte_of_readByte hsp (by rw [hst]; exact hb) ((hread sp a).trans (if_pos ⟨rfl, rfl⟩))
    refine ⟨_, run_two (step_memWrite hm hsp ha) (step_memRead hmoves (by rw [hcfg]; exact ha)), ?_,
      fun sp' a' hne => ?_⟩
    · exact congrArg (fun c : Byte => BitVec.ofNat 64 c.toNat) hback
    · have hother : ¬ (sp' = sp ∧ a' = a) := by tauto
      have := (hread sp' a').trans (if_neg hother)
      cases sp' <;> exact this
  · intro s sp a b ms hsp ha hwf hm
    obtain ⟨hmoves, -, hjob, hres, hreg⟩ := busStore_keeps { s with moves := ms } sp a b
    have hread (sp' a') := readByte_busStore (s := { s with moves := ms }) hwf hsp sp' a a' b
    refine ⟨_, step_memWrite hm hsp ha, hmoves, (hread sp a).trans (if_pos ⟨rfl, rfl⟩), fun sp' a' hne => ?_, hjob,
      hres, hreg⟩
    have hother : ¬ (sp' = sp ∧ a' = a) := by tauto
    exact ((hread sp' a').trans (if_neg hother)).trans (by cases sp' <;> rfl)
  · intro s sp a ms ha hm
    refine ⟨_, busByte s sp a, step_memRead hm ha, rfl, ?_⟩
    rintro b rfl hb hlt hr
    exact busByte_out hb hlt hr
  · intro s sp a ms m hm hacc hout
    have ha : hasAddress s.cfg sp a = false := hasAddress_eq_false hout
    rw [step_of_moves hm]
    obtain rfl | ⟨hsp, b, rfl⟩ := hacc
    · simp [hostMove, ha]
    · simp [hostMove, ha, hsp]

/-- Settles O21: what the slot decodes to, and the step that runs it (`step_of_slot`). -/
theorem filterNamesSelectTheirCodec : Obligations.FilterNamesSelectTheirCodec := by
  unfold Obligations.FilterNamesSelectTheirCodec
  intro slot hlen
  dsimp only
  have hselects : ∀ i, decodeSlot slot = i → decode .fname (streamL slot) = .instr i 256 ∧
      ∀ s : State, running s → s.phase = .orchestrate → s.stage < s.j.desc.nfilt.toNat →
        s.j.flt[s.stage]? = some slot → step s = exec i s := by
    rintro _ rfl
    exact ⟨decode_fname hlen, fun s => step_of_slot hlen⟩
  exact ⟨fun p hp hname => hselects _ (decodeSlot_of_name slot p hp hname),
    fun h => hselects _ (decodeSlot_of_not_mem h)⟩

/-- Settles O1. -/
theorem stepRunsDecodedInstruction : Obligations.StepRunsDecodedInstruction := by
  unfold Obligations.StepRunsDecodedInstruction
  refine ⟨fun s f bs i used => step_of_decode, ?_, ?_, ?_⟩
  · intro s f bs i used ms hm hb hw hd
    simp only [step_of_moves hm, hostMove, hb, if_true, blockStep, hw, hd]
  · intro s v ms i used hm hd
    simp [step_of_moves hm, hostMove, outsideMap, busCtrl, hd]
  · intro s hm hb
    simp only [step, hm, if_neg hb]

/-- Settles O10: the state after power-on is its own external reset. -/
theorem resetValues : Obligations.ResetValues := by
  unfold Obligations.ResetValues
  intro s r hr
  obtain ⟨s', rfl⟩ : ∃ s', r = busReset s' := by
    rcases List.mem_pair.1 hr with rfl | rfl
    · exact ⟨State.reset, busReset_reset.symm⟩
    · exact ⟨s, rfl⟩
  exact ⟨rfl, regValue_busReset s', fun _ _ => rfl, fun _ => ⟨rfl, rfl⟩⟩

/-- Settles O12: power-on is the reset of `busReset`, with no codec running. -/
theorem resetMeetsTheInvariants : Obligations.ResetMeetsTheInvariants := by
  unfold Obligations.ResetMeetsTheInvariants
  refine ⟨reset_memory_wf, resultWf_busReset State.reset, nofun, ?_, groupWf_empty, ?_⟩
  · exact ⟨rfl, by decide, by decide, by decide, .inl (by decide), nofun, nofun, nofun, nofun, fun _ => rfl⟩
  · exact ⟨nofun, ⟨.nil, nofun⟩, nofun, nofun, nofun⟩

end

section
/-! The registers of the host (R22 to R32, R66, R70): their named bits, what a host write leaves, and the fields of
STATUS. -/

namespace Sys2Proof.Machine

open Sys2Proof

variable {s : State} {o : Nat} {v : Word} {ms : List Move}

/-! ## Accesses inside and outside the map -/

theorem outsideMap_of_le (cfg : Config) (h : o ≤ 0xA0) : outsideMap cfg o = false := by
  simp [outsideMap, Nat.not_lt.2 h]

theorem outsideMap_of_refuse {cfg : Config} (h : 0xA0 < o) (hc : cfg.reservedOffsets = .refuse) :
    outsideMap cfg o = true := by
  simp [outsideMap, h, hc]

theorem outsideMap_of_readZero {cfg : Config} (o : Nat) (hc : cfg.reservedOffsets = .readZero) :
    outsideMap cfg o = false := by
  simp [outsideMap, hc]

theorem step_regWrite (h : s.moves = .regWrite o v :: ms) (hal : o % 8 = 0) (hin : outsideMap s.cfg o = false)
    (hne : o ≠ 0) : step s = .next (busWrite { s with moves := ms } o v) := by
  simp [step_of_moves h, hostMove, hal, hin, hne]

theorem step_regRead (h : s.moves = .regRead o :: ms) (hal : o % 8 = 0) (hin : outsideMap s.cfg o = false) :
    step s = .next { s with moves := ms, draws := s.draws + 1, hostData := busRead s o } := by
  simp only [step_of_moves h, hostMove, hal, hin, ne_eq, not_true_eq_false, if_false, Bool.false_eq_true]
  rfl

/-- A register access is refused where it is not aligned (log 10). -/
theorem step_misaligned {m : Move} (hm : m = .regWrite o v ∨ m = .regRead o) (h : s.moves = m :: ms)
    (hal : o % 8 ≠ 0) : step s = .refused (.misaligned o) := by
  rw [step_of_moves h]
  obtain rfl | rfl := hm <;> exact if_pos hal

/-- An aligned register access is refused where it is outside the interface (log 9). -/
theorem step_outsideMap {m : Move} (hm : m = .regWrite o v ∨ m = .regRead o) (h : s.moves = m :: ms)
    (hal : o % 8 = 0) (hout : outsideMap s.cfg o = true) : step s = .refused (.noSuchRegister o) := by
  rw [step_of_moves h]
  obtain rfl | rfl := hm <;> simp [hostMove, hal, hout]

/-! ## Offsets without a register (R70) -/

theorem busWrite_reserved (s : State) (v : Word) (h : 0xA0 < o) : busWrite s o v = s := by
  unfold busWrite
  split
  case h_15 => rfl
  all_goals omega

theorem regMask_reserved (cfg : Config) (h : 0xA0 < o) : regMask cfg o = 0 := by
  unfold regMask
  split
  case h_20 => rfl
  all_goals omega

theorem regValue_reserved (s : State) (h : 0xA0 < o) : regValue s o = 0 := by
  unfold regValue
  split
  case h_21 => rfl
  all_goals omega

theorem busRead_reserved (s : State) (h : 0xA0 < o) : busRead s o = 0 := by
  have hstatus : o ≠ 0x08 := by omega
  simp only [busRead, if_neg hstatus, regMask_reserved _ h, regValue_reserved s h]
  split
  · exact BitVec.and_zero
  · rfl

/-! ## Reading back what was written -/

theorem widths_of_legal {cfg : Config} (h : Config.legal cfg = true) : cfg.lenBits ≤ 64 ∧ cfg.nfiltBits ≤ 64 := by
  simp only [Config.legal, Bool.and_eq_true, decide_eq_true_eq] at h
  omega

/-- A register of `w` bits keeps the low `w` bits of a write. -/
theorem lowBits_eq_and_mask {w : Nat} (hw : w ≤ 64) (v : Word) :
    BitVec.ofNat 64 (v.toNat % 2 ^ w) = v &&& BitVec.ofNat 64 (2 ^ w - 1) := by
  have hpow : 2 ^ w ≤ 2 ^ 64 := Nat.pow_le_pow_right (by decide) hw
  have hpos : 0 < 2 ^ w := Nat.two_pow_pos w
  apply BitVec.eq_of_toNat_eq
  rw [BitVec.toNat_and, BitVec.toNat_ofNat, BitVec.toNat_ofNat, Nat.mod_eq_of_lt (a := 2 ^ w - 1) (by omega),
    Nat.and_two_pow_sub_one_eq_mod, Nat.mod_eq_of_lt (Nat.lt_of_le_of_lt (Nat.mod_le _ _) v.isLt)]

/-- The same for a register that is held as a `BitVec w`. -/
theorem ofNat_toNat_eq_and_mask (w : Nat) (hw : w ≤ 64) (v : Word) :
    BitVec.ofNat 64 (BitVec.ofNat w v.toNat).toNat = v &&& BitVec.ofNat 64 (2 ^ w - 1) := by
  rw [BitVec.toNat_ofNat, lowBits_eq_and_mask hw]

/-- A register that can be written holds the named bits of the write (R24 to R31). -/
theorem regValue_busWrite_same (s : State) (v : Word) (hl : Config.legal s.cfg = true) :
    ∀ o ∈ rwOffsets, regValue (busWrite s o v) o = v &&& regMask s.cfg o := by
  obtain ⟨hlen, hnfilt⟩ := widths_of_legal hl
  have hlen := lowBits_eq_and_mask hlen v
  have hnfilt := lowBits_eq_and_mask hnfilt v
  have hbit := ofNat_toNat_eq_and_mask 1 (by decide) v
  have hword := ofNat_toNat_eq_and_mask 32 (by decide) v
  have hflags := ofNat_toNat_eq_and_mask 5 (by decide) v
  simp only [rwOffsets, List.forall_mem_cons]
  exact ⟨hlen, hnfilt, hbit, hword, hword, hword, hword, hbit, hword, hlen, hword, hword, hword, hflags, nofun⟩

/-- A host write of a register leaves every other register. -/
theorem regValue_busWrite_of_ne (s : State) (v : Word) {o' : Nat} (h : o' ≠ o) :
    regValue (busWrite s o v) o' = regValue s o' := by
  unfold busWrite
  split
  case h_15 => rfl
  -- Each write changes one field; `h` excludes the one register that reads it.
  all_goals
    unfold regValue
    split
  all_goals simp at h ⊢

/-- What a host write of a register leaves: the job, the result and every byte. -/
theorem busWrite_keeps (s : State) (o : Nat) (v : Word) :
    (busWrite s o v).moves = s.moves ∧ (busWrite s o v).cfg = s.cfg ∧ sameJob s (busWrite s o v) ∧
      resultKept s (busWrite s o v) ∧ bytesKept s (busWrite s o v) := by
  obtain ⟨inLen, desc, hw⟩ := busWrite_eq s o v
  rw [hw]
  exact ⟨rfl, rfl, ⟨rfl, rfl, rfl, rfl, rfl, rfl, rfl⟩, ⟨rfl, rfl, rfl, rfl, rfl, rfl⟩, bytesKept_of_eq rfl rfl rfl⟩

theorem rwOffsets_place : ∀ o ∈ rwOffsets, o % 8 = 0 ∧ o ≤ 0xA0 ∧ o ≠ 0 := by decide

/-- The step that writes a register that can be written. -/
theorem step_regWrite_of_mem (ho : o ∈ rwOffsets) (h : s.moves = .regWrite o v :: ms) :
    step s = .next (busWrite { s with moves := ms } o v) := by
  obtain ⟨hal, hle, hne⟩ := rwOffsets_place o ho
  exact step_regWrite h hal (outsideMap_of_le _ hle) hne

/-- The registers a host can only read (R70). -/
def readOnlyOffsets : List Nat := [0x08, 0x18, 0x88, 0x90, 0x98, 0xA0]

theorem readOnlyOffsets_place : ∀ o ∈ readOnlyOffsets, o % 8 = 0 ∧ o ≤ 0xA0 ∧ o ≠ 0 := by decide

theorem busWrite_readOnly (s : State) (v : Word) : ∀ o ∈ readOnlyOffsets, busWrite s o v = s := by
  simp only [readOnlyOffsets, List.forall_mem_cons]
  exact ⟨rfl, rfl, rfl, rfl, rfl, rfl, nofun⟩

/-- The step that writes a read-only register changes nothing. -/
theorem step_regWrite_readOnly (ho : o ∈ readOnlyOffsets) (h : s.moves = .regWrite o v :: ms) :
    step s = .next { s with moves := ms } := by
  obtain ⟨hal, hle, hne⟩ := readOnlyOffsets_place o ho
  rw [step_regWrite h hal (outsideMap_of_le _ hle) hne, busWrite_readOnly _ v o ho]

/-! ## A read while BUSY (R49) -/

theorem busRead_of_busy (hb : s.status.state = .busy) (ho : o ≠ 0x08) :
    busRead s o = Config.freeWord s.draws &&& regMask s.cfg o := by
  rw [busRead, if_pos hb, if_neg ho]

theorem busRead_status_of_busy (hb : s.status.state = .busy) :
    busRead s 0x08 = busyStatusWord s.cfg.nfiltBits (Config.freeWord s.draws) := by
  rw [busRead, if_pos hb, if_pos rfl]

/-- Of the low eight bits of STATUS those of ECLASS have a name apart from STATE (R23). -/
theorem getLsbD_statusNamedMask (w : Nat) {i : Nat} (hi : i < 8) :
    (statusNamedMask w).getLsbD i = decide (i = 2 ∨ i = 3) := by
  have hsplit : 2 ^ (27 + w) - 2 ^ 8 + 0xC = 2 ^ 8 * (2 ^ (19 + w) - 1) + 0xC := by
    rw [show 27 + w = 8 + (19 + w) by omega, Nat.pow_add, Nat.mul_sub, Nat.mul_one]
  rw [statusNamedMask, BitVec.getLsbD_ofNat, hsplit, Nat.testBit_two_pow_mul_add _ (by decide), if_pos hi,
    decide_eq_true (by omega), Bool.true_and]
  interval_cases i <;> rfl

/-- STATUS while BUSY: STATE is 1, and bits 7 to 4 are 0 (R23, R49). -/
theorem busyStatusWord_fields (w : Nat) (free : Word) :
    (busyStatusWord w free).extractLsb' 0 2 = 1 ∧ (busyStatusWord w free).extractLsb' 4 4 = 0 := by
  have hbit : ∀ i < 8, i ≠ 2 → i ≠ 3 → (busyStatusWord w free).getLsbD i = decide (i = 0) := by
    intro i hi h2 h3
    simp [busyStatusWord, runStateBits, getLsbD_statusNamedMask w hi, h2, h3]
  constructor
  all_goals
    apply BitVec.eq_of_getLsbD_eq
    intro i hi
    rw [BitVec.getLsbD_extractLsb', hbit _ (by omega) (by omega) (by omega)]
    interval_cases i <;> rfl

/-! ## The fields of STATUS (R23) -/

/-- A field at its place in a register. -/
def fieldAt {m : Nat} (k : Nat) (x : BitVec m) : Word := x.setWidth 64 <<< k

theorem getLsbD_fieldAt {m : Nat} (k : Nat) (x : BitVec m) (i : Nat) :
    (fieldAt k x).getLsbD i = (decide (i < 64) && decide (k ≤ i) && x.getLsbD (i - k)) := by
  by_cases hi : i < 64
  · have hik : i - k < 64 := by omega
    simp only [fieldAt, BitVec.getLsbD_shiftLeft, BitVec.getLsbD_setWidth, hi, hik, decide_true, Bool.true_and,
      ← decide_not, Nat.not_lt]
  · simp only [fieldAt, BitVec.getLsbD_shiftLeft, hi, decide_false, Bool.false_and]

theorem extractLsb'_fieldAt_same {m : Nat} (k : Nat) (x : BitVec m) (h : k + m ≤ 64) :
    (fieldAt k x).extractLsb' k m = x := by
  apply BitVec.eq_of_getLsbD_eq
  intro i hi
  have : k + i < 64 := by omega
  rw [BitVec.getLsbD_extractLsb', getLsbD_fieldAt]
  simp only [hi, this, Nat.le_add_right, Nat.add_sub_cancel_left, decide_true, Bool.true_and]

theorem extractLsb'_fieldAt_above {m k start len : Nat} (x : BitVec m) (h : k + m ≤ start) :
    (fieldAt k x).extractLsb' start len = 0#len := by
  apply BitVec.eq_of_getLsbD_eq
  intro i _
  simp [getLsbD_fieldAt, BitVec.getLsbD_of_ge x (start + i - k) (by omega)]

theorem extractLsb'_fieldAt_below {m k start len : Nat} (x : BitVec m) (h : start + len ≤ k) :
    (fieldAt k x).extractLsb' start len = 0#len := by
  apply BitVec.eq_of_getLsbD_eq
  intro i hi
  have : ¬ k ≤ start + i := by omega
  simp [getLsbD_fieldAt, this]

/-- A flag is a field of one bit. -/
theorem getLsbD_of_extractLsb' {w : Word} {i : Nat} {b : Bool} (h : w.extractLsb' i 1 = BitVec.ofBool b) :
    w.getLsbD i = b := by
  simpa using congrArg (BitVec.getLsbD · 0) h

/-- STATUS at the width of R23, as its ten fields. -/
theorem statusWord_eq_fields (st : Status) :
    statusWord 4 st = fieldAt 0 (runStateBits st.state) ||| fieldAt 2 (errClassBits st.eclass) |||
      fieldAt 8 st.ecode ||| fieldAt 16 (st.estage.setWidth 4) ||| fieldAt 20 st.efilt ||| fieldAt 24 st.flateStep |||
      fieldAt 27 (BitVec.ofBool st.flatePartial) ||| fieldAt 28 (BitVec.ofBool st.lzwFallback) |||
      fieldAt 29 (BitVec.ofBool st.ccittRetry) ||| fieldAt 30 (BitVec.ofBool st.ccittWhite) := by
  simp only [statusWord, fieldAt, ← BitVec.ofNat_toNat, BitVec.toNat_ofNat, BitVec.toNat_ofBool, BitVec.shiftLeft_zero,
    Nat.reduceAdd]

/-- Every field of R23 reads back from STATUS, and the bits without a name are 0. -/
theorem statusWord_fields (st : Status) :
    (statusWord 4 st).extractLsb' 0 2 = runStateBits st.state ∧
      (statusWord 4 st).extractLsb' 2 2 = errClassBits st.eclass ∧ (statusWord 4 st).extractLsb' 4 4 = 0 ∧
      (statusWord 4 st).extractLsb' 8 8 = st.ecode ∧ (statusWord 4 st).extractLsb' 16 4 = st.estage.setWidth 4 ∧
      (statusWord 4 st).extractLsb' 20 4 = st.efilt ∧ (statusWord 4 st).extractLsb' 24 3 = st.flateStep ∧
      (statusWord 4 st).getLsbD 27 = st.flatePartial ∧ (statusWord 4 st).getLsbD 28 = st.lzwFallback ∧
      (statusWord 4 st).getLsbD 29 = st.ccittRetry ∧ (statusWord 4 st).getLsbD 30 = st.ccittWhite ∧
      (statusWord 4 st).extractLsb' 31 33 = 0 := by
  rw [statusWord_eq_fields]
  refine ⟨?_, ?_, ?_, ?_, ?_, ?_, ?_, getLsbD_of_extractLsb' ?_, getLsbD_of_extractLsb' ?_, getLsbD_of_extractLsb' ?_,
    getLsbD_of_extractLsb' ?_, ?_⟩
  all_goals
    simp [BitVec.extractLsb'_or, extractLsb'_fieldAt_same, extractLsb'_fieldAt_above, extractLsb'_fieldAt_below]

/-- Up to 15 slots NFILT has the 4 bits of R26. -/
theorem nfiltBits_eq_four {cfg : Config} (h : cfg.nfiltMax ≤ 15) : cfg.nfiltBits = 4 := by
  have hlog : Nat.log2 cfg.nfiltMax < 4 := by
    by_cases h0 : cfg.nfiltMax = 0
    · simp [h0]
    · exact (Nat.log2_lt h0).2 (by omega)
  exact max_eq_left (by omega)

theorem busRead_status (hb : s.status.state ≠ .busy) (hn : s.cfg.nfiltMax ≤ 15) :
    busRead s 0x08 = statusWord 4 s.status := by
  rw [busRead, if_neg hb, ← nfiltBits_eq_four hn]
  rfl

end Sys2Proof.Machine

open Sys2Proof Sys2Proof.Machine

/-- Settles O8, by the rules for a register after a host write (`regValue_busWrite_same`, `regValue_busWrite_of_ne`) and
the fields of STATUS (`statusWord_fields`). -/
theorem registersReadBackWhatWasWritten : Obligations.RegistersReadBackWhatWasWritten := by
  unfold Obligations.RegistersReadBackWhatWasWritten
  refine ⟨?_, ?_, ?_, fun o ho s v ms => step_regWrite_readOnly ho, ?_, ?_⟩
  · intro o ho s v hb hl hm
    obtain ⟨hmoves, -, -, ⟨hstatus, -⟩, -⟩ := busWrite_keeps { s with moves := [.regRead o] } o v
    obtain ⟨hal, hle, -⟩ := rwOffsets_place o ho
    refine ⟨_, run_two (step_regWrite_of_mem ho hm) (step_regRead hmoves hal (outsideMap_of_le _ hle)), ?_,
      fun o' hne => regValue_busWrite_of_ne { s with moves := [.regRead o] } v hne⟩
    exact (if_neg (by rw [hstatus]; exact hb)).trans (regValue_busWrite_same { s with moves := [.regRead o] } v hl o ho)
  · intro o ho s v ms hl hm
    obtain ⟨hmoves, -, hjob, hres, hbytes⟩ := busWrite_keeps { s with moves := ms } o v
    exact ⟨_, step_regWrite_of_mem ho hm, hmoves, regValue_busWrite_same { s with moves := ms } v hl o ho,
      fun o' hne => regValue_busWrite_of_ne { s with moves := ms } v hne, hjob, hres, hbytes⟩
  · intro s o ms hm hb hal hle
    refine ⟨_, step_regRead hm hal (outsideMap_of_le _ hle), rfl, ?_, fun hne => ?_⟩
    · rintro rfl
      exact busRead_status_of_busy hb ▸ busyStatusWord_fields _ _
    · show busRead s o &&& ~~~regMask s.cfg o = 0
      rw [busRead_of_busy hb hne, BitVec.and_assoc, BitVec.and_not_self]
      exact BitVec.and_zero
  · intro s ms hm hb hn
    obtain ⟨hstate, hclass, hfields⟩ := busRead_status hb hn ▸ statusWord_fields s.status
    exact ⟨_, step_regRead hm rfl (outsideMap_of_le _ (by decide)), rfl, fun h => hstate.trans (h ▸ rfl),
      fun h => hstate.trans (h ▸ rfl), fun h => hstate.trans (h ▸ rfl), fun h => hclass.trans (h ▸ rfl),
      fun h => hclass.trans (h ▸ rfl), fun h => hclass.trans (h ▸ rfl), fun h => hclass.trans (h ▸ rfl), hfields⟩
  · intro s o v ms m hacc hm
    refine ⟨step_misaligned hacc hm, fun hal hlt hc => step_outsideMap hacc hm hal (outsideMap_of_refuse hlt hc),
      fun hal hlt hc => ⟨?_, ?_⟩⟩
    · rintro rfl
      rw [step_regWrite hm hal (outsideMap_of_readZero o hc) (by omega), busWrite_reserved _ v hlt]
    · rintro rfl
      rw [step_regRead hm hal (outsideMap_of_readZero o hc), busRead_reserved s hlt]

end

section
/-! Reading back what was written: fields, bytes and codes, as lists of bits (R62, R63, R202, R381). -/

namespace Sys2Proof.Machine

open Sys2Proof

/-! ## Fields and bytes -/

@[simp] theorem length_streamL (b : Bytes) : (streamL b).length = 8 * b.length := by
  simp [streamL, List.length_flatMap, Nat.mul_comm]

theorem fieldL_of_lt {n v : Nat} (h : v < 2 ^ n) (rest : List Bool) : fieldL n (bitsL n v ++ rest) = some v := by
  rw [fieldL_bitsL, Nat.mod_eq_of_lt h]

theorem fieldM_of_lt {n v : Nat} (h : v < 2 ^ n) (rest : List Bool) : fieldM n (bitsM n v ++ rest) = some v := by
  rw [fieldM_bitsM, Nat.mod_eq_of_lt h]

@[simp] theorem fieldL_toNat {n : Nat} (x : BitVec n) (rest : List Bool) :
    fieldL n (bitsL n x.toNat ++ rest) = some x.toNat := fieldL_of_lt x.isLt rest

@[simp] theorem fieldM_toNat {n : Nat} (x : BitVec n) (rest : List Bool) :
    fieldM n (bitsM n x.toNat ++ rest) = some x.toNat := fieldM_of_lt x.isLt rest

/-- What a successful read of bytes gives. -/
theorem bytesL_some {n : Nat} {bs : List Bool} {b : Bytes} (h : bytesL n bs = some b) :
    b.length = n ∧ 8 * n ≤ bs.length := by
  induction n generalizing bs b with
  | zero => cases h; simp
  | succ n ih =>
    cases hv : fieldL 8 bs with
    | none => simp [bytesL, hv] at h
    | some v =>
      simp only [bytesL, hv, Option.map_eq_some_iff] at h
      obtain ⟨tail, htail, rfl⟩ := h
      obtain ⟨hlen, hle⟩ := ih htail
      have hbyte := (fieldL_some 8 v bs hv).1
      rw [List.length_drop] at hle
      exact ⟨congrArg (· + 1) hlen, by omega⟩

/-! ## Codes of which none begins another -/

theorem take_bitsM {k n : Nat} (h : k ≤ n) (v : Nat) : (bitsM n v).take k = bitsM k (v / 2 ^ (n - k)) := by
  apply List.ext_getElem
  · simp [h]
  · intro i hi _
    have hik : i < k := by simpa [h] using hi
    have hplace : n - k + (k - 1 - i) = n - 1 - i := by omega
    simp [bitsM, Nat.testBit_div_two_pow, hplace, Nat.add_comm]

/-- The first bits of a code, as a number. -/
theorem natM_take_bitsM {k n v : Nat} (h : k ≤ n) (hv : v < 2 ^ n) :
    natM ((bitsM n v).take k) = v / 2 ^ (n - k) := by
  rw [take_bitsM h, natM_bitsM, Nat.mod_eq_of_lt]
  apply Nat.div_lt_of_lt_mul
  rwa [← pow_add, Nat.sub_add_cancel h]

/-- No entry's code begins another's (R202, R381). -/
def PrefixFree {α : Type} (len code : α → Nat) (t : List α) : Prop :=
  t.Pairwise fun e e' =>
    ¬ codeBegins (len e) (code e) (len e') (code e') ∧ ¬ codeBegins (len e') (code e') (len e) (code e)

section PrefixFree

variable {α β : Type} {len code : α → Nat} {t : List α} {e e' : α}

theorem PrefixFree.eq_of_begins (ht : PrefixFree len code t) (he : e ∈ t) (he' : e' ∈ t)
    (h : codeBegins (len e') (code e') (len e) (code e)) : e' = e := by
  have hsymm : Std.Symm fun a b => ¬ codeBegins (len a) (code a) (len b) (code b) ∧
      ¬ codeBegins (len b) (code b) (len a) (code a) := ⟨fun _ _ => And.symm⟩
  by_contra hne
  exact (List.Pairwise.forall ht he' he hne).1 h

/-- Looking up the first `k` bits of an entry's code finds that entry or nothing. -/
theorem PrefixFree.eq_of_find? (ht : PrefixFree len code t) (he : e ∈ t) {k : Nat} (hk : k ≤ len e)
    (h : (t.find? fun a => len a == k && code a == code e / 2 ^ (len e - k)) = some e') : e' = e ∧ len e' = k := by
  obtain ⟨hlen, hcode⟩ : len e' = k ∧ code e' = code e / 2 ^ (len e - k) := by simpa using List.find?_some h
  subst hlen
  exact ⟨ht.eq_of_begins he (List.mem_of_find?_eq_some h) ⟨hk, hcode.symm⟩, rfl⟩

theorem PrefixFree.find?_code (ht : PrefixFree len code t) (he : e ∈ t) :
    (t.find? fun a => len a == len e && code a == code e) = some e := by
  cases h : t.find? fun a => len a == len e && code a == code e with
  | none => simpa using List.find?_eq_none.1 h e he
  | some e' =>
    obtain ⟨rfl, -⟩ := ht.eq_of_find? he le_rfl (e' := e') (by simpa using h)
    rfl

theorem PrefixFree.find?_begin (ht : PrefixFree len code t) (he : e ∈ t) {k : Nat} (hk : k < len e) :
    (t.find? fun a => len a == k && code a == code e / 2 ^ (len e - k)) = none := by
  cases h : t.find? fun a => len a == k && code a == code e / 2 ^ (len e - k) with
  | none => rfl
  | some e' =>
    obtain ⟨rfl, hlen⟩ := ht.eq_of_find? he hk.le h
    omega

/-- The code of an entry of a table of such codes is read as that entry, whatever bits follow. -/
theorem PrefixFree.readCode_code (ht : PrefixFree len code t) (he : e ∈ t) (val : α → β) {fuel : Nat}
    (hpos : 1 ≤ len e) (hfuel : len e ≤ fuel) (hcode : code e < 2 ^ len e) (rest : List Bool) :
    readCode (fun l c => (t.find? fun a => len a == l && code a == c).map val) fuel 0 0
      (bitsM (len e) (code e) ++ rest) = .hit (val e) (len e) := by
  have hread := readCode_hit (fun l c => (t.find? fun a => len a == l && code a == c).map val) (val e)
    (bitsM (len e) (code e)) fuel 0 0 rest
  simp only [length_bitsM, Nat.zero_add] at hread
  refine hread (List.ne_nil_of_length_pos (by rwa [length_bitsM])) hfuel ?_ fun k _ hk => ?_
  · have hnat : natM (bitsM (len e) (code e)) = code e := by rw [natM_bitsM, Nat.mod_eq_of_lt hcode]
    rw [← natM, hnat, ht.find?_code he]
    rfl
  · rw [← natM, natM_take_bitsM hk.le hcode, ht.find?_begin he hk]
    rfl

end PrefixFree

/-- What a hit takes of the bits. -/
theorem readCode_hit_le {α : Type} {look : Nat → Nat → Option α} {x : α} {fuel l c n : Nat} {bs : List Bool}
    (h : readCode look fuel l c bs = .hit x n) : n ≤ l + bs.length := by
  induction fuel generalizing l c bs with
  | zero => simp [readCode] at h
  | succ fuel ih =>
    cases bs with
    | nil => simp [readCode] at h
    | cons b bs =>
      rw [readCode] at h
      rw [List.length_cons]
      split at h
      · cases h; omega
      · have := ih h
        omega

/-- Bits that are no code are as many as a code may have, and bits after them change nothing. -/
theorem readCode_noCode {α : Type} {look : Nat → Nat → Option α} {fuel l c : Nat} {bs : List Bool}
    (h : readCode look fuel l c bs = .noCode) :
    fuel ≤ bs.length ∧ ∀ rest, readCode look fuel l c (bs ++ rest) = .noCode := by
  induction fuel generalizing l c bs with
  | zero => simp [readCode]
  | succ fuel ih =>
    cases bs with
    | nil => simp [readCode] at h
    | cons b bs =>
      rw [readCode] at h
      split at h
      · cases h
      · rename_i hmiss
        obtain ⟨hle, happ⟩ := ih h
        exact ⟨Nat.succ_le_succ hle, fun rest => by rw [List.cons_append, readCode, hmiss]; exact happ rest⟩

/-! ## Huffman tables and fax tables -/

/-- `DecodeSym` reads the code of an entry of a well-formed table (R202). -/
theorem decodeSym_code {t : HuffTable} (ht : tableWf t) {e : HuffEntry} (he : e ∈ t) (rest : List Bool) :
    decodeSym t (bitsM e.len e.code ++ rest) = .hit e.sym e.len := by
  obtain ⟨hentries, hfree⟩ := ht
  obtain ⟨hpos, hle, hcode⟩ := hentries e he
  have hfree : PrefixFree HuffEntry.len HuffEntry.code t := hfree
  exact hfree.readCode_code he HuffEntry.sym hpos hle hcode rest

/-- A fax table in which every code is 1 to `maxLen` bits long, fits its length, and begins no other (R381). -/
def FaxTabWf (maxLen : Nat) (t : List FaxCode) : Prop :=
  (∀ e ∈ t, 1 ≤ e.len ∧ e.len ≤ maxLen ∧ e.code < 2 ^ e.len) ∧ PrefixFree FaxCode.len FaxCode.code t

theorem faxModeTab_wf : FaxTabWf 7 faxModeTab := by
  unfold FaxTabWf PrefixFree codeBegins
  decide +kernel

theorem faxRunTab_wf (c : Colour) : FaxTabWf 13 (faxRunTab c) := by
  unfold FaxTabWf PrefixFree codeBegins
  cases c <;> decide +kernel

/-- The bits of an instruction of a fax table are read as that instruction. -/
theorem readCode_faxBits {maxLen : Nat} {t : List FaxCode} (ht : FaxTabWf maxLen t) {i : Instr} {bs : List Bool}
    (h : faxBits t i = some bs) (rest : List Bool) :
    readCode (faxLook t) maxLen 0 0 (bs ++ rest) = .hit i bs.length := by
  simp only [faxBits, Option.map_eq_some_iff] at h
  obtain ⟨e, hfind, rfl⟩ := h
  obtain ⟨hentries, hfree⟩ := ht
  have he := List.mem_of_find?_eq_some hfind
  obtain ⟨hpos, hle, hcode⟩ := hentries e he
  obtain rfl : e.instr = i := by simpa using List.find?_some hfind
  rw [length_bitsM]
  exact hfree.readCode_code he FaxCode.instr hpos hle hcode rest

@[simp] theorem leadingZeros_replicate (n : Nat) (rest : List Bool) :
    leadingZeros (List.replicate n false ++ true :: rest) = some n := by
  induction n with
  | zero => rfl
  | succ n ih => simp [List.replicate_succ, leadingZeros, ih]

/-- The 1 bit after the leading 0 bits is there. -/
theorem leadingZeros_lt {z : Nat} {bs : List Bool} (h : leadingZeros bs = some z) : z < bs.length := by
  induction bs generalizing z with
  | nil => simp [leadingZeros] at h
  | cons b bs ih =>
    cases b with
    | true => simp only [leadingZeros, Option.some.injEq] at h; subst h; simp
    | false =>
      simp only [leadingZeros, Option.map_eq_some_iff] at h
      obtain ⟨y, hy, rfl⟩ := h
      exact Nat.succ_lt_succ (ih hy)

end Sys2Proof.Machine

end

section
/-! Decoding inverts encoding, format by format (30_encoding.md). -/

namespace Sys2Proof.Machine

open Sys2Proof

variable {i : Instr}

/-! ## The operands that are checked (R107) -/

theorem wf_fnameUnknown_iff {slot : Bytes} :
    (Instr.fnameUnknown slot).wf = true ↔ slot.length = 32 ∧ slotName slot ∉ filterNames := by
  have hwf : (Instr.fnameUnknown slot).wf = (decide (slot.length = 32) && !knownName (slotName slot)) := rfl
  simp [hwf, knownName]

theorem wf_predIllegal_iff {p : BitVec 32} : (Instr.predIllegal p).wf = true ↔ legalSelector p = false :=
  (Bool.not_eq_true' _).to_iff

theorem wf_rlRepeat_iff {n : BitVec 7} : (Instr.rlRepeat n).wf = true ↔ n ≠ 0 := decide_eq_true_iff

theorem wf_lzwRef_iff {c : BitVec 16} : (Instr.lzwRef c).wf = true ↔ 258 ≤ c.toNat := decide_eq_true_iff

theorem wf_lzwIllegal_iff {c : BitVec 16} : (Instr.lzwIllegal c).wf = true ↔ 258 ≤ c.toNat := decide_eq_true_iff

theorem wf_hexDigit_iff {c : Byte} : (Instr.hexDigit c).wf = true ↔ (hexVal c).isSome = true := Iff.rfl

theorem wf_hexIllegal_iff {c : Byte} : (Instr.hexIllegal c).wf = true ↔ hexVal c = none := Option.isNone_iff_eq_none

theorem wf_a85Digit_iff {c : Byte} : (Instr.a85Digit c).wf = true ↔ isA85Digit c = true := Iff.rfl

theorem wf_a85Illegal_iff {c : Byte} :
    (Instr.a85Illegal c).wf = true ↔ isA85Digit c = false ∧ c ≠ 0x7A ∧ c ≠ 0x7E := by
  have hwf : (Instr.a85Illegal c).wf = (!isA85Digit c && decide (c ≠ 0x7A) && decide (c ≠ 0x7E)) := rfl
  simp [hwf, and_assoc]

theorem wf_pngTagIllegal_iff {tag : Byte} : (Instr.pngTagIllegal tag).wf = true ↔ 4 < tag.toNat := decide_eq_true_iff

/-! ## Commands, slots, selectors, strategies -/

theorem decodeCmd_encodeCmd {w : Nat} (h : encodeCmd i = some w) : w < 2 ^ 64 ∧ decodeCmd w = .instr i 64 := by
  cases i with
  | decodeStream | decodeStreamOpt | ccittDecode | ccittGray | ack => cases h; exact ⟨by decide, rfl⟩
  | _ => cases h

theorem decodeSlot_encodeSlot {slot : Bytes} (hwf : i.wf = true) (h : encodeSlot i = some slot) :
    slot.length = 32 ∧ decodeSlot slot = i := by
  cases i with
  | flateDecode | asciiHexDecode | ascii85Decode | lzwDecode | runLengthDecode | dctDecode | ccittFaxDecode
  | jbig2Decode => cases h; exact ⟨rfl, rfl⟩
  | fnameUnknown =>
    cases h
    obtain ⟨hlen, hname⟩ := wf_fnameUnknown_iff.1 hwf
    exact ⟨hlen, decodeSlot_of_not_mem hname⟩
  | _ => cases h

/-- A value that is no legal selector (R93). -/
theorem decodePred_of_illegal {p : BitVec 32} (h : legalSelector p = false) : decodePred p = .predIllegal p := by
  unfold decodePred
  split <;> simp_all [legalSelector]

theorem decodePred_encodePred {v : Nat} (hwf : i.wf = true) (h : encodePred i = some v) :
    v < 2 ^ 32 ∧ decodePred (BitVec.ofNat 32 v) = i := by
  cases i with
  | predNone | predTiff | predPngNone | predPngSub | predPngUp | predPngAvg | predPngPaeth | predPngOpt =>
    cases h
    exact ⟨by decide, rfl⟩
  | predIllegal p =>
    cases h
    rw [BitVec.ofNat_toNat, BitVec.setWidth_eq]
    exact ⟨p.isLt, decodePred_of_illegal (wf_predIllegal_iff.1 hwf)⟩
  | _ => cases h

theorem decodeStrategy_strategyNumber {n : Nat} (h : strategyNumber i = some n) :
    decodeStrategy n = .instr i 0 := by
  cases i with
  | flateS1 | flateS2 | flateS3 | flateS4 | flateS5 | flateS6 | flateS7 => cases h; rfl
  | _ => cases h

/-! ## The inflate engine -/

theorem decodeBlk_encodeBlk {bs : List Bool} (h : encodeBlk i = some bs) (rest : List Bool) :
    decodeBlk (bs ++ rest) = .instr i bs.length := by
  cases i with
  | blkStored | blkFixed | blkDynamic | blkReserved => cases h; rfl
  | _ => cases h

@[simp] theorem withExtra_bitsL {w : Nat} (x : BitVec w) (used : Nat) (rest : List Bool) (mk : BitVec w → Instr) :
    withExtra w used (bitsL w x.toNat ++ rest) mk = .instr (mk x) (used + w) := by
  simp [withExtra]

/-- The repeat of the length before it fails before its extra bits where there is none (R201). -/
theorem clCode_clCopy (noPrev : Bool) (x : BitVec 2) :
    clCode noPrev (.clCopy x) =
      if noPrev then (if x = 0 then some (16, []) else none) else some (16, bitsL 2 x.toNat) := rfl

/-- A code-length symbol with its extra bits is read back (R97, R201). -/
theorem clInstr_clCode {noPrev : Bool} {sym : Nat} {extra : List Bool} (h : clCode noPrev i = some (sym, extra))
    (used : Nat) (rest : List Bool) :
    clInstr noPrev sym used (extra ++ rest) = .instr i (used + extra.length) := by
  cases i with
  | clLen l => cases h; simp [clInstr, l.isLt]
  | clCopy x =>
    rw [clCode_clCopy] at h
    cases noPrev with
    | false => cases h; simp [clInstr]
    | true =>
      obtain ⟨rfl, rfl, rfl⟩ : x = 0 ∧ 16 = sym ∧ [] = extra := by simpa using h
      rfl
  | clZero3 x | clZero11 x => cases h; simp [clInstr]
  | _ => cases h

/-- A literal/length symbol with its extra bits is read back (R98, R203). -/
theorem llInstr_llCode {sym : Nat} {extra : List Bool} (h : llCode i = some (sym, extra)) (used : Nat)
    (rest : List Bool) : llInstr sym used (extra ++ rest) = .instr i (used + extra.length) := by
  cases i
  case lit b => cases h; simp [llInstr, b.isLt]
  case llIllegal x =>
    cases h
    obtain rfl | rfl : x = 0 ∨ x = 1 := by revert x; decide
    all_goals rfl
  all_goals cases h <;> simp [llInstr]

/-- A distance symbol with its extra bits is read back (R98, R203). -/
theorem dInstr_dCode {sym : Nat} {extra : List Bool} (h : dCode i = some (sym, extra)) (used : Nat)
    (rest : List Bool) : dInstr sym used (extra ++ rest) = .instr i (used + extra.length) := by
  cases i
  case dIllegal x =>
    cases h
    obtain rfl | rfl : x = 0 ∨ x = 1 := by revert x; decide
    all_goals rfl
  all_goals cases h <;> simp [dInstr]

/-- A symbol of a well-formed table is read back with its extra bits, if those are (R202, R203). -/
theorem decodeHuff_encodeHuff {t : HuffTable} (ht : tableWf t) {code : Option (Nat × List Bool)} {bs : List Bool}
    {mk : Nat → Nat → List Bool → Decoded}
    (hmk : ∀ sym extra, code = some (sym, extra) →
      ∀ used rest, mk sym used (extra ++ rest) = .instr i (used + extra.length))
    (h : encodeHuff t code = some bs) (rest : List Bool) :
    decodeHuff t (bs ++ rest) mk = .instr i bs.length := by
  simp only [encodeHuff, huffCode, Option.bind_eq_some_iff, Option.map_eq_some_iff] at h
  obtain ⟨⟨sym, extra⟩, hcode, _, ⟨e, hfind, rfl⟩, rfl⟩ := h
  obtain rfl : e.sym = sym := by simpa using List.find?_some hfind
  have hdrop : (bitsM e.len e.code ++ (extra ++ rest)).drop e.len = extra ++ rest := List.drop_left' (by simp)
  rw [List.append_assoc, decodeHuff, decodeSym_code ht (List.mem_of_find?_eq_some hfind)]
  simp only [hdrop, hmk _ _ hcode, List.length_append, length_bitsM]

/-- Bits above those taken do not matter. -/
theorem bitsL_mod (n v : Nat) : bitsL n (v % 2 ^ n) = bitsL n v := by
  apply List.ext_getElem
  · simp
  · intro k hk _
    have hk : k < n := by simpa using hk
    simp [bitsL, Nat.testBit_mod_two_pow, hk]

/-- The four bytes of a word, most significant first (R95). -/
def bigEndianBytes (v : BitVec 32) : Bytes := [24, 16, 8, 0].map fun k => BitVec.ofNat 8 (v.toNat / 2 ^ k)

@[simp] theorem length_bigEndianBytes (v : BitVec 32) : (bigEndianBytes v).length = 4 := rfl

theorem foldl_bigEndianBytes (v : BitVec 32) :
    BitVec.ofNat 32 ((bigEndianBytes v).foldl (fun n (c : Byte) => 256 * n + c.toNat) 0) = v := by
  have hv := v.isLt
  apply BitVec.eq_of_toNat_eq
  simp only [bigEndianBytes, List.map_cons, List.map_nil, List.foldl_cons, List.foldl_nil, BitVec.toNat_ofNat]
  omega

theorem encode_zlibTrailer (v : BitVec 32) :
    encode .zlibTrailer (.zlibTrailer v) = some (streamL (bigEndianBytes v)) := by
  have hbyte (n : Nat) : bitsL 8 (n % 256) = bitsL 8 n := bitsL_mod 8 n
  simp [encode, bigEndianBytes, streamL, hbyte]

/-! ## LZW codes -/

theorem encodeLzw_lzwRef (next : Nat) (prev : Bool) (c : BitVec 16) :
    encodeLzw next prev (.lzwRef c) = if c.toNat < next then some c.toNat else none := rfl

theorem encodeLzw_lzwKwkwk (next : Nat) (prev : Bool) :
    encodeLzw next prev .lzwKwkwk = if prev && decide (258 ≤ next) then some next else none := rfl

theorem encodeLzw_lzwIllegal (next : Nat) (prev : Bool) (c : BitVec 16) :
    encodeLzw next prev (.lzwIllegal c) =
      if next < c.toNat ∨ (next = c.toNat ∧ prev = false) then some c.toNat else none := rfl

/-- The codes from 258 on are classified by NEXT_CODE and PREV (R99). -/
theorem decodeLzw_of_data {c : Nat} (h : 258 ≤ c) (next : Nat) (prev : Bool) :
    decodeLzw next prev c =
      if c < next then .lzwRef (BitVec.ofNat 16 c)
      else if c = next ∧ prev then .lzwKwkwk
      else .lzwIllegal (BitVec.ofNat 16 c) := by
  simp only [decodeLzw, show ¬ c < 256 by omega, show c ≠ 256 by omega, show c ≠ 257 by omega, if_false]

theorem decodeLzw_encodeLzw {next : Nat} {prev : Bool} {v : Nat} (hwf : i.wf = true)
    (h : encodeLzw next prev i = some v) : decodeLzw next prev v = i := by
  cases i with
  | lzwLit b => cases h; simp [decodeLzw, b.isLt]
  | lzwClear | lzwEod => cases h; rfl
  | lzwRef c =>
    obtain ⟨hnext, rfl⟩ : c.toNat < next ∧ c.toNat = v := by simpa [encodeLzw_lzwRef] using h
    simp [decodeLzw_of_data (wf_lzwRef_iff.1 hwf), hnext]
  | lzwKwkwk =>
    obtain ⟨⟨rfl, hnext⟩, rfl⟩ : (prev = true ∧ 258 ≤ next) ∧ next = v := by
      simpa [encodeLzw_lzwKwkwk] using h
    simp [decodeLzw_of_data hnext]
  | lzwIllegal c =>
    obtain ⟨hnext, rfl⟩ : (next < c.toNat ∨ next = c.toNat ∧ prev = false) ∧ c.toNat = v := by
      simpa [encodeLzw_lzwIllegal] using h
    have hkwkwk : ¬ (c.toNat = next ∧ prev = true) := by
      rintro ⟨rfl, rfl⟩
      simp at hnext
    simp [decodeLzw_of_data (wf_lzwIllegal_iff.1 hwf), hkwkwk, show ¬ c.toNat < next by omega]
  | _ => cases h

/-! ## The byte codecs -/

@[simp] theorem decodeByte_bitsM (c : Byte) (rest : List Bool) (mk : Byte → Instr) :
    decodeByte (bitsM 8 c.toNat ++ rest) mk = .instr (mk c) 8 := by
  simp [decodeByte]

/-- An instruction that is one byte is read back, if that byte's instruction is it. -/
theorem decodeByte_encode {byte : Option Byte} {bs : List Bool} {mk : Byte → Instr}
    (hmk : ∀ c, byte = some c → mk c = i) (h : (byte.map fun c => bitsM 8 c.toNat) = some bs) (rest : List Bool) :
    decodeByte (bs ++ rest) mk = .instr i bs.length := by
  obtain ⟨c, hc, rfl⟩ := Option.map_eq_some_iff.1 h
  rw [decodeByte_bitsM, hmk c hc, length_bitsM]

theorem decodeRl_of_lt {n : BitVec 7} : decodeRl (BitVec.ofNat 8 n.toNat) = .rlLiteral n := by
  have hlt := n.isLt
  have hval : (BitVec.ofNat 8 n.toNat).toNat = n.toNat := by rw [BitVec.toNat_ofNat]; omega
  simp only [decodeRl, hval, if_pos hlt]
  rw [BitVec.ofNat_toNat, BitVec.setWidth_eq]

theorem decodeRl_of_gt {n : BitVec 7} (h : n ≠ 0) : decodeRl (BitVec.ofNat 8 (128 + n.toNat)) = .rlRepeat n := by
  have hpos : n.toNat ≠ 0 := fun h0 => h (BitVec.eq_of_toNat_eq h0)
  have hval : (BitVec.ofNat 8 (128 + n.toNat)).toNat = 128 + n.toNat := by rw [BitVec.toNat_ofNat]; omega
  have hlow : BitVec.ofNat 7 (128 + n.toNat) = n := by
    apply BitVec.eq_of_toNat_eq
    rw [BitVec.toNat_ofNat]
    omega
  simp only [decodeRl, hval, hlow, show ¬ 128 + n.toNat < 128 by omega, show 128 + n.toNat ≠ 128 by omega, if_false]

theorem decodeRl_encodeRl {c : Byte} (hwf : i.wf = true) (h : encodeRl i = some c) : decodeRl c = i := by
  cases i with
  | rlLiteral => cases h; exact decodeRl_of_lt
  | rlRepeat => cases h; exact decodeRl_of_gt (wf_rlRepeat_iff.1 hwf)
  | rlEod => cases h; rfl
  | _ => cases h

theorem decodeHex_encodeHex {ws : Bytes} {last : Bool} {v : Byte} (hwf : i.wf = true)
    (h : encodeHex ws last i = some v) : decodeHex ws last v = i := by
  cases i with
  | hexWs c =>
    obtain ⟨hws, rfl⟩ : c ∈ ws ∧ c = v := by simpa [encodeHex] using h
    simp [decodeHex, hws]
  | hexDigit c =>
    obtain ⟨hws, rfl⟩ : c ∉ ws ∧ c = v := by simpa [encodeHex] using h
    have hdigit := wf_hexDigit_iff.1 hwf
    simp [decodeHex, hws, hdigit]
  | hexEod =>
    obtain ⟨⟨hws, rfl⟩, rfl⟩ : (0x3E ∉ ws ∧ last = true) ∧ 0x3E = v := by simpa [encodeHex] using h
    have hdigit : hexVal 0x3E = none := rfl
    simp only [decodeHex, List.contains_iff_mem, hws, hdigit]
    rfl
  | hexIllegal c =>
    obtain ⟨⟨hws, hterm⟩, rfl⟩ : (c ∉ ws ∧ (c = 0x3E → last = false)) ∧ c = v := by
      simpa [encodeHex] using h
    have hdigit := wf_hexIllegal_iff.1 hwf
    have heod : ¬ (c = 0x3E ∧ last = true) := fun ⟨hc, hlast⟩ => by simp [hterm hc] at hlast
    simp only [decodeHex, List.contains_iff_mem, hws, hdigit, heod]
    rfl
  | _ => cases h

/-- `z` and `~` are no digits (R290). -/
theorem ne_of_isA85Digit {c : Byte} (h : isA85Digit c = true) : c ≠ 0x7E ∧ c ≠ 0x7A := by
  constructor <;> (rintro rfl; contradiction)

theorem decodeA85_encodeA85 {ws : Bytes} {v : Byte} (hwf : i.wf = true) (h : encodeA85 ws i = some v) :
    decodeA85 ws v = i := by
  cases i with
  | a85Ws c =>
    obtain ⟨hws, rfl⟩ : c ∈ ws ∧ c = v := by simpa [encodeA85] using h
    simp [decodeA85, hws]
  | a85Digit c =>
    obtain ⟨hws, rfl⟩ : c ∉ ws ∧ c = v := by simpa [encodeA85] using h
    have hdigit := wf_a85Digit_iff.1 hwf
    obtain ⟨hterm, hz⟩ := ne_of_isA85Digit hdigit
    simp only [decodeA85, List.contains_iff_mem, hws, hterm, hz, hdigit, if_true, if_false]
  | a85Z =>
    obtain ⟨hws, rfl⟩ : 0x7A ∉ ws ∧ 0x7A = v := by simpa [encodeA85] using h
    simp only [decodeA85, List.contains_iff_mem, hws]
    rfl
  | a85Term =>
    obtain ⟨hws, rfl⟩ : 0x7E ∉ ws ∧ 0x7E = v := by simpa [encodeA85] using h
    simp only [decodeA85, List.contains_iff_mem, hws]
    rfl
  | a85Illegal c =>
    obtain ⟨hws, rfl⟩ : c ∉ ws ∧ c = v := by simpa [encodeA85] using h
    obtain ⟨hdigit, hz, hterm⟩ := wf_a85Illegal_iff.1 hwf
    simp only [decodeA85, List.contains_iff_mem, hws, hterm, hz, hdigit, if_false, Bool.false_eq_true]
  | _ => cases h

theorem decodeTag_of_lt {tag : Byte} (h : 4 < tag.toNat) : decodeTag tag = .pngTagIllegal tag := by
  unfold decodeTag
  split <;> first | omega | rfl

theorem decodeTag_encodeTag {tag : Byte} (hwf : i.wf = true) (h : encodeTag i = some tag) : decodeTag tag = i := by
  cases i with
  | pngNone | pngSub | pngUp | pngAverage | pngPaeth => cases h; rfl
  | pngTagIllegal => cases h; exact decodeTag_of_lt (wf_pngTagIllegal_iff.1 hwf)
  | _ => cases h

/-- An implied tag is the encoding's tag (R328). -/
theorem decodeTag_encodePngRow {implied : Option Nat} {tag : Byte} (hwf : i.wf = true)
    (h : encodePngRow implied i = some tag) : decodeTag ((implied.map (BitVec.ofNat 8)).getD tag) = i := by
  cases implied with
  | none => exact decodeTag_encodeTag hwf h
  | some k =>
    obtain ⟨htag, hk⟩ : encodeTag i = some tag ∧ tag = BitVec.ofNat 8 k := by
      simpa [encodePngRow, Option.filter_eq_some_iff] using h
    exact decodeTag_encodeTag hwf (hk ▸ htag)

/-! ## Every format -/

theorem decode_encode_zlibHdr {bs : List Bool} (h : encode .zlibHdr i = some bs) (rest : List Bool) :
    decode .zlibHdr (bs ++ rest) = .instr i bs.length := by
  cases i with
  | zlibHdr cmf flg =>
    cases h
    simp [decode]
  | _ => cases h

theorem decode_encode_zlibTrailer {bs : List Bool} (h : encode .zlibTrailer i = some bs) (rest : List Bool) :
    decode .zlibTrailer (bs ++ rest) = .instr i bs.length := by
  cases i with
  | zlibTrailer v =>
    obtain rfl : streamL (bigEndianBytes v) = bs := by simpa only [encode_zlibTrailer, Option.some.injEq] using h
    have hread : bytesL 4 (streamL (bigEndianBytes v) ++ rest) = some (bigEndianBytes v) := 
      bytesL_streamL (bigEndianBytes v) rest
    simp only [decode, hread, foldl_bigEndianBytes, length_streamL, length_bigEndianBytes]
  | _ => cases h

theorem decode_encode_dynHdr {bs : List Bool} (h : encode .dynHdr i = some bs) (rest : List Bool) :
    decode .dynHdr (bs ++ rest) = .instr i bs.length := by
  cases i with
  | dynHdr l d c =>
    cases h
    have hdrop : (bitsL 5 l.toNat ++ (bitsL 5 d.toNat ++ (bitsL 4 c.toNat ++ rest))).drop 10 =
        bitsL 4 c.toNat ++ rest := by
      rw [← List.append_assoc]
      exact List.drop_left' (by simp)
    simp [decode, hdrop]
  | _ => cases h

theorem decode_encode_faxEol {strict : Bool} {bs : List Bool} (h : encode (.faxEol strict) i = some bs)
    (rest : List Bool) : decode (.faxEol strict) (bs ++ rest) = .instr i bs.length := by
  cases i with
  | faxEol fill =>
    obtain ⟨hfill, rfl⟩ : (strict = true → fill = 0) ∧ List.replicate (fill + 11) false ++ [true] = bs := by
      simpa [encode] using h
    have hplace : fill + 11 = 11 ∨ (11 ≤ fill + 11 ∧ strict = false) := by
      cases strict with
      | false => exact .inr ⟨by omega, rfl⟩
      | true => exact .inl (by rw [hfill rfl])
    rw [List.append_assoc]
    simp only [decode, List.singleton_append, leadingZeros_replicate, if_pos hplace]
    simp
  | _ => cases h

/-- The illegal mode has an encoding of its own; every other instruction has the code of the table (R104, R108). -/
theorem encode_faxMode {bs : List Bool} (h : encode .faxMode i = some bs) :
    (∃ x : BitVec 1, i = .faxModeIllegal x ∧ bs = bitsM 7 x.toNat) ∨ faxBits faxModeTab i = some bs := by
  cases i with
  | faxModeIllegal x => cases h; exact .inl ⟨x, rfl, rfl⟩
  | _ => exact .inr h

/-- The illegal run has an encoding of its own, 13 bits that are no code; every other instruction has the code of the
table (R105, R108). -/
theorem encode_faxRun {c : Colour} {bs : List Bool} (h : encode (.faxRun c) i = some bs) :
    (∃ code : BitVec 13, i = .faxRunIllegal code ∧ bs = bitsM 13 code.toNat ∧
      readCode (faxLook (faxRunTab c)) 13 0 0 bs = .noCode) ∨ faxBits (faxRunTab c) i = some bs := by
  cases i with
  | faxRunIllegal code =>
    have hread : (match readCode (faxLook (faxRunTab c)) 13 0 0 (bitsM 13 code.toNat) with
      | .noCode => some (bitsM 13 code.toNat)
      | _ => none) = some bs := h
    split at hread
    next hno => cases hread; exact .inl ⟨code, rfl, rfl, hno⟩
    next => cases hread
  | _ => exact .inr h

/-- Seven bits that are no mode, and their value (R108). -/
theorem readCode_faxModeIllegal : ∀ x : BitVec 1,
    readCode (faxLook faxModeTab) 7 0 0 (bitsM 7 x.toNat) = .noCode ∧
      BitVec.ofNat 1 (natM (bitsM 7 x.toNat)) = x := by
  decide

theorem decode_encode_faxMode {bs : List Bool} (h : encode .faxMode i = some bs) (rest : List Bool) :
    decode .faxMode (bs ++ rest) = .instr i bs.length := by
  obtain ⟨x, rfl, rfl⟩ | hbits := encode_faxMode h
  · obtain ⟨hno, hval⟩ := readCode_faxModeIllegal x
    have htake : (bitsM 7 x.toNat ++ rest).take 7 = bitsM 7 x.toNat := List.take_left' (length_bitsM ..)
    simp only [decode, (readCode_noCode hno).2 rest, htake, hval, length_bitsM]
  · simp only [decode, readCode_faxBits faxModeTab_wf hbits rest]

theorem decode_encode_faxRun {c : Colour} {bs : List Bool} (h : encode (.faxRun c) i = some bs) (rest : List Bool) :
    decode (.faxRun c) (bs ++ rest) = .instr i bs.length := by
  obtain ⟨code, rfl, rfl, hno⟩ | hbits := encode_faxRun h
  · have htake : (bitsM 13 code.toNat ++ rest).take 13 = bitsM 13 code.toNat := List.take_left' (length_bitsM ..)
    have hval : natM (bitsM 13 code.toNat) = code.toNat := by rw [natM_bitsM, Nat.mod_eq_of_lt code.isLt]
    simp only [decode, (readCode_noCode hno).2 rest, htake, hval, length_bitsM, BitVec.ofNat_toNat, BitVec.setWidth_eq]
  · simp only [decode, readCode_faxBits (faxRunTab_wf c) hbits rest]

end Sys2Proof.Machine

open Sys2Proof Sys2Proof.Machine

/-- Settles O43: format by format, the round trip of the format's own encoder. -/
theorem decodeInvertsEncode : Obligations.DecodeInvertsEncode := by
  unfold Obligations.DecodeInvertsEncode
  intro f i bs rest hf hwf h
  cases f with
  | cmd =>
    obtain ⟨w, hw, rfl⟩ := Option.map_eq_some_iff.1 h
    obtain ⟨hlt, hdecode⟩ := decodeCmd_encodeCmd hw
    simp only [decode, fieldL_of_lt hlt, hdecode, length_bitsL]
  | fname =>
    obtain ⟨slot, hslot, rfl⟩ := Option.map_eq_some_iff.1 h
    obtain ⟨hlen, hdecode⟩ := decodeSlot_encodeSlot hwf hslot
    have hread := bytesL_streamL slot rest
    rw [hlen] at hread
    simp only [decode, hread, hdecode, length_streamL, hlen]
  | pred =>
    obtain ⟨v, hv, rfl⟩ := Option.map_eq_some_iff.1 h
    obtain ⟨hlt, hdecode⟩ := decodePred_encodePred hwf hv
    simp only [decode, fieldL_of_lt hlt, hdecode, length_bitsL]
  | strategy n =>
    obtain ⟨hn, rfl⟩ : strategyNumber i = some n ∧ [] = bs := by simpa [encode] using h
    exact decodeStrategy_strategyNumber hn
  | zlibHdr => exact decode_encode_zlibHdr h rest
  | zlibTrailer => exact decode_encode_zlibTrailer h rest
  | deflateBlk => exact decodeBlk_encodeBlk h rest
  | dynHdr => exact decode_encode_dynHdr h rest
  | clSym t noPrev => exact decodeHuff_encodeHuff hf (fun _ _ => clInstr_clCode) h rest
  | llSym t => exact decodeHuff_encodeHuff hf (fun _ _ => llInstr_llCode) h rest
  | dSym t => exact decodeHuff_encodeHuff hf (fun _ _ => dInstr_dCode) h rest
  | lzwCode width next prev =>
    obtain ⟨v, hv, hbits⟩ := Option.bind_eq_some_iff.1 h
    obtain ⟨hlt, rfl⟩ : v < 2 ^ width ∧ bitsM width v = bs := by simpa [encodeField] using hbits
    simp only [decode, fieldM_of_lt hlt, decodeLzw_encodeLzw hwf hv, length_bitsM]
  | rlByte => exact decodeByte_encode (fun _ => decodeRl_encodeRl hwf) h rest
  | hexChar ws last => exact decodeByte_encode (fun _ => decodeHex_encodeHex hwf) h rest
  | a85Char ws => exact decodeByte_encode (fun _ => decodeA85_encodeA85 hwf) h rest
  | pngRow implied => exact decodeByte_encode (fun _ => decodeTag_encodePngRow hwf) h rest
  | tiffRow =>
    obtain ⟨rfl, rfl⟩ : i = .tiffRow ∧ [] = bs := by simpa [encode] using h
    rfl
  | faxEol strict => exact decode_encode_faxEol h rest
  | faxMode => exact decode_encode_faxMode h rest
  | faxRun c => exact decode_encode_faxRun h rest

end

section
/-! What decoding answers is well-formed and lies in the bits given (R107, R109). -/

namespace Sys2Proof.Machine

open Sys2Proof

/-- A decoded instruction is well-formed and takes at most `n` bits; a rejection takes none. -/
def Fits (n : Nat) : Decoded → Prop
  | .instr i used => i.wf = true ∧ used ≤ n
  | .reject _ => True

theorem Fits.mono {m n : Nat} {d : Decoded} (h : Fits m d) (hle : m ≤ n) : Fits n d := by
  cases d with
  | instr i used => exact ⟨h.1, h.2.trans hle⟩
  | reject r => trivial

/-! ## The operands of each format -/

theorem decodeCmd_fits (w : Nat) : Fits 64 (decodeCmd w) := by
  unfold decodeCmd
  split
  · split <;> exact ⟨rfl, le_rfl⟩
  · split
    · exact ⟨rfl, le_rfl⟩
    · trivial

theorem decodeSlot_wf {slot : Bytes} (h : slot.length = 32) : (decodeSlot slot).wf = true := by
  by_cases hmem : slotName slot ∈ filterNames
  · have hlt : filterNames.idxOf (slotName slot) < 8 := List.idxOf_lt_length_iff.2 hmem
    unfold decodeSlot
    interval_cases filterNames.idxOf (slotName slot)
    all_goals rfl
  · rw [decodeSlot_of_not_mem hmem]
    exact wf_fnameUnknown_iff.2 ⟨h, hmem⟩

theorem decodePred_wf (p : BitVec 32) : (decodePred p).wf = true := by
  cases h : legalSelector p with
  | false => 
    rw [decodePred_of_illegal h]
    exact wf_predIllegal_iff.2 h
  | true =>
    have hp : p.toNat ∈ [1, 2, 10, 11, 12, 13, 14, 15] := List.contains_iff_mem.1 h
    simp only [List.mem_cons, List.not_mem_nil, or_false] at hp
    rcases hp with h | h | h | h | h | h | h | h
    all_goals simp only [decodePred, h]; rfl

theorem decodeStrategy_fits (k : Nat) : Fits 0 (decodeStrategy k) := by
  unfold decodeStrategy
  split <;> first | exact ⟨rfl, le_rfl⟩ | trivial

theorem decodeBlk_fits (bs : List Bool) : Fits bs.length (decodeBlk bs) := by
  unfold decodeBlk
  split <;> first | exact ⟨rfl, by simp⟩ | trivial

theorem withExtra_fits {w : Nat} {mk : BitVec w → Instr} (h : ∀ v, (mk v).wf = true) (used : Nat)
    (rest : List Bool) : Fits (used + rest.length) (withExtra w used rest mk) := by
  unfold withExtra
  split
  · trivial
  next hv =>
    have := (fieldL_some _ _ _ hv).1
    exact ⟨h _, by omega⟩

theorem clInstr_fits (noPrev : Bool) (sym used : Nat) (rest : List Bool) :
    Fits (used + rest.length) (clInstr noPrev sym used rest) := by
  unfold clInstr
  split
  · exact ⟨rfl, by omega⟩
  · split
    · split
      · exact ⟨rfl, by omega⟩
      · exact withExtra_fits (fun _ => rfl) _ _
    · exact withExtra_fits (fun _ => rfl) _ _
    · exact withExtra_fits (fun _ => rfl) _ _
    · trivial

theorem llInstr_fits (sym used : Nat) (rest : List Bool) : Fits (used + rest.length) (llInstr sym used rest) := by
  unfold llInstr
  split
  · exact ⟨rfl, by omega⟩
  · split <;> first | exact withExtra_fits (fun _ => rfl) _ _ | exact ⟨rfl, by omega⟩ | trivial

theorem dInstr_fits (sym used : Nat) (rest : List Bool) : Fits (used + rest.length) (dInstr sym used rest) := by
  unfold dInstr
  split <;> first | exact withExtra_fits (fun _ => rfl) _ _ | exact ⟨rfl, by omega⟩ | trivial

/-- Where every symbol's instruction fits the bits after its code, so does the whole (R202). -/
theorem decodeHuff_fits {mk : Nat → Nat → List Bool → Decoded}
    (h : ∀ sym used rest, Fits (used + rest.length) (mk sym used rest)) (t : HuffTable) (bs : List Bool) :
    Fits bs.length (decodeHuff t bs mk) := by
  unfold decodeHuff
  split
  next sym used hread =>
    have hle : used ≤ 0 + bs.length := readCode_hit_le hread
    have hfits := h sym used (bs.drop used)
    rwa [List.length_drop, Nat.add_sub_cancel' (by omega)] at hfits
  · trivial
  · trivial

/-- A code of at most 16 bits is well-formed as it is classified (R99, R251). -/
theorem decodeLzw_wf {c : Nat} (hc : c < 2 ^ 16) (next : Nat) (prev : Bool) : (decodeLzw next prev c).wf = true := by
  by_cases hdata : 258 ≤ c
  · have hval : (BitVec.ofNat 16 c).toNat = c := by rw [BitVec.toNat_ofNat, Nat.mod_eq_of_lt hc]
    rw [decodeLzw_of_data hdata]
    split
    · exact wf_lzwRef_iff.2 (by rwa [hval])
    · split
      · rfl
      · exact wf_lzwIllegal_iff.2 (by rwa [hval])
  · obtain hlit | rfl | rfl : c < 256 ∨ c = 256 ∨ c = 257 := by omega
    · rw [decodeLzw, if_pos hlit]
      rfl
    · rfl
    · rfl

theorem decodeRl_wf (c : Byte) : (decodeRl c).wf = true := by
  unfold decodeRl
  split
  · rfl
  · split
    · rfl
    · have hc := c.isLt
      refine wf_rlRepeat_iff.2 fun h => ?_
      have hval : c.toNat % 2 ^ 7 = 0 := by rw [← BitVec.toNat_ofNat, h]; rfl
      omega

theorem decodeHex_wf (ws : Bytes) (last : Bool) (c : Byte) : (decodeHex ws last c).wf = true := by
  unfold decodeHex
  split
  · rfl
  · split
    next hdigit => exact wf_hexDigit_iff.2 hdigit
    next hdigit =>
      split
      · rfl
      · exact wf_hexIllegal_iff.2 (Option.not_isSome_iff_eq_none.1 hdigit)

theorem decodeA85_wf (ws : Bytes) (c : Byte) : (decodeA85 ws c).wf = true := by
  unfold decodeA85
  split
  · rfl
  · split
    · rfl
    next hterm =>
      split
      · rfl
      next hz =>
        split
        next hdigit => exact wf_a85Digit_iff.2 hdigit
        next hdigit => exact wf_a85Illegal_iff.2 ⟨Bool.eq_false_of_not_eq_true hdigit, hz, hterm⟩

theorem decodeTag_wf (tag : Byte) : (decodeTag tag).wf = true := by
  by_cases h : 4 < tag.toNat
  · rw [decodeTag_of_lt h]
    exact wf_pngTagIllegal_iff.2 h
  · interval_cases htag : tag.toNat
    all_goals simp only [decodeTag, htag]; rfl

theorem decodeByte_fits {mk : Byte → Instr} (h : ∀ c, (mk c).wf = true) (bs : List Bool) :
    Fits bs.length (decodeByte bs mk) := by
  unfold decodeByte
  split
  · trivial
  next hv => exact ⟨h _, (fieldM_some _ _ _ hv).1⟩

theorem faxModeTab_instr_wf : ∀ e ∈ faxModeTab, e.instr.wf = true := by decide

theorem faxRunTab_instr_wf (c : Colour) : ∀ e ∈ faxRunTab c, e.instr.wf = true := by cases c <;> decide

/-- What a fax table's code reads as stands in the table, and its bits are there. -/
theorem readCode_faxLook_fits {t : List FaxCode} (ht : ∀ e ∈ t, e.instr.wf = true) {maxLen : Nat} {bs : List Bool}
    {i : Instr} {n : Nat} (h : readCode (faxLook t) maxLen 0 0 bs = .hit i n) : i.wf = true ∧ n ≤ bs.length := by
  obtain ⟨l, c, hlook⟩ := readCode_mem _ _ _ _ _ _ _ h
  obtain ⟨e, he, rfl⟩ := faxLook_mem _ _ _ _ hlook
  have := readCode_hit_le h
  exact ⟨ht e he, by omega⟩

/-! ## Every format -/

theorem decode_fits {f : Format} (hf : formatWf f) (bs : List Bool) : Fits bs.length (decode f bs) := by
  cases f with
  | cmd =>
    simp only [decode]
    split
    · trivial
    next hw => exact (decodeCmd_fits _).mono (fieldL_some _ _ _ hw).1
  | fname =>
    simp only [decode]
    split
    · trivial
    next hslot =>
      obtain ⟨hlen, hle⟩ := bytesL_some hslot
      exact ⟨decodeSlot_wf hlen, hle⟩
  | pred =>
    simp only [decode]
    split
    · trivial
    next hp => exact ⟨decodePred_wf _, (fieldL_some _ _ _ hp).1⟩
  | strategy n => exact (decodeStrategy_fits n).mono (Nat.zero_le _)
  | zlibHdr =>
    simp only [decode]
    split
    next hflg =>
      have hle := (fieldL_some _ _ _ hflg).1
      rw [List.length_drop] at hle
      exact ⟨rfl, by omega⟩
    · trivial
  | zlibTrailer =>
    simp only [decode]
    split
    · trivial
    next hbytes => exact ⟨rfl, (bytesL_some hbytes).2⟩
  | deflateBlk => exact decodeBlk_fits bs
  | dynHdr =>
    simp only [decode]
    split
    next hclen =>
      have hle := (fieldL_some _ _ _ hclen).1
      rw [List.length_drop] at hle
      exact ⟨rfl, by omega⟩
    · trivial
  | clSym t noPrev => exact decodeHuff_fits (clInstr_fits noPrev) t bs
  | llSym t => exact decodeHuff_fits llInstr_fits t bs
  | dSym t => exact decodeHuff_fits dInstr_fits t bs
  | lzwCode width next prev =>
    simp only [decode]
    split
    · trivial
    next c hc =>
      obtain ⟨hle, hlt⟩ := fieldM_some _ _ _ hc
      exact ⟨decodeLzw_wf (hlt.trans_le (Nat.pow_le_pow_right (by decide) hf)) _ _, hle⟩
  | rlByte => exact decodeByte_fits decodeRl_wf bs
  | hexChar ws last => exact decodeByte_fits (decodeHex_wf ws last) bs
  | a85Char ws => exact decodeByte_fits (decodeA85_wf ws) bs
  | pngRow implied => exact decodeByte_fits (fun _ => decodeTag_wf _) bs
  | tiffRow => exact ⟨rfl, Nat.zero_le _⟩
  | faxEol strict =>
    simp only [decode]
    split
    · trivial
    next hz =>
      split
      · exact ⟨rfl, leadingZeros_lt hz⟩
      · trivial
  | faxMode =>
    simp only [decode]
    split
    next hread => exact readCode_faxLook_fits faxModeTab_instr_wf hread
    next hno => exact ⟨rfl, (readCode_noCode hno).1⟩
    · trivial
  | faxRun c =>
    simp only [decode]
    split
    next hread => exact readCode_faxLook_fits (faxRunTab_instr_wf c) hread
    next hno => exact ⟨rfl, (readCode_noCode hno).1⟩
    · trivial

/-! ## The bits of a command -/

/-- OP is bits 5:4 (R22). -/
theorem op_eq_bits (w : Nat) : w / 16 % 4 = 2 * (w.testBit 5).toNat + (w.testBit 4).toNat := by
  rw [Nat.toNat_testBit, Nat.toNat_testBit]
  omega

/-- With START set, OP alone selects the command (R90). -/
theorem decodeCmd_start {w : Nat} {b4 b5 : Bool} (hstart : w.testBit 0 = true) (h5 : w.testBit 5 = b5)
    (h4 : w.testBit 4 = b4) :
    decodeCmd w = .instr (bif b5 then bif b4 then .ccittGray else .ccittDecode
      else bif b4 then .decodeStreamOpt else .decodeStream) 64 := by
  rw [decodeCmd, if_pos hstart, op_eq_bits, h5, h4]
  cases b5 <;> cases b4 <;> rfl

theorem decodeCmd_ack {w : Nat} (hstart : w.testBit 0 = false) (hack : w.testBit 1 = true) :
    decodeCmd w = .instr .ack 64 := by
  simp [decodeCmd, hstart, hack]

theorem decodeCmd_none {w : Nat} (hstart : w.testBit 0 = false) (hack : w.testBit 1 = false) :
    decodeCmd w = .reject .noCommand := by
  simp [decodeCmd, hstart, hack]

end Sys2Proof.Machine

open Sys2Proof Sys2Proof.Machine

/-- Settles O44, by what each format's decoder can answer (`decode_fits`). -/
theorem decodedInstructionsAreWellFormed : Obligations.DecodedInstructionsAreWellFormed := by
  unfold Obligations.DecodedInstructionsAreWellFormed
  intro f bs i used hf h
  have hfits := decode_fits hf bs
  rwa [h] at hfits

/-- Settles O7, by the bits of the value that `decodeCmd` tests. -/
theorem ctrlWriteSelectsTheCommand : Obligations.CtrlWriteSelectsTheCommand := by
  unfold Obligations.CtrlWriteSelectsTheCommand
  intro v
  have hread : decode .cmd (bitsL 64 v.toNat) = decodeCmd v.toNat := by
    have hfield := fieldL_toNat v []
    rw [List.append_nil] at hfield
    simp only [decode, hfield]
  rw [hread]
  exact ⟨decodeCmd_start, decodeCmd_start, decodeCmd_start, decodeCmd_start, decodeCmd_ack, decodeCmd_none⟩

/-- Settles O45: each word is read by evaluation. -/
theorem knownWordsDecode : Obligations.KnownWordsDecode := by
  unfold Obligations.KnownWordsDecode
  refine ⟨?_, ?_, ?_, ?_, ?_, ?_, ?_, ?_, ?_, ?_, ?_⟩
  all_goals decide +kernel

end

section
/-! The ends and the beginnings of the filter stages (R133 to R142): the checks of a stage's output, the steps at which
no instruction can be read, and the three ways a job goes on from there. -/

namespace Sys2Proof.Machine

open Sys2Proof

variable {s : State} {unit : Nat} {o : Bytes} {isPartial : Bool} {x : Host.Outcome State Fault Refusal}

/-! ## What the checks and the exceptions leave -/

theorem ratioExceeded_iff {cmp : RatioCmp} {n origLen maxRatio : Nat} :
    ratioExceeded cmp n origLen maxRatio = true ↔ 0 < maxRatio ∧
      ((cmp = .exact ∧ maxRatio * max 1 origLen < n) ∨ (cmp = .floor ∧ maxRatio < n / max 1 origLen)) := by
  cases cmp <;> simp [ratioExceeded]

theorem sizeExceeded_iff {n maxSize : Nat} : sizeExceeded n maxSize = true ↔ 0 < maxSize ∧ maxSize < n := by
  simp [sizeExceeded]

/-- The effective limits are those of the descriptor, or the defaults (R8, R29). -/
theorem effLimits_eq {j : Latch} {maxRatio maxSize : Nat}
    (hsec : j.op = .decodeStreamOpt ∧ j.desc.secValid = 1 →
      maxRatio = j.desc.maxRatio.toNat ∧ maxSize = j.desc.maxSize.toNat)
    (hdef : ¬ (j.op = .decodeStreamOpt ∧ j.desc.secValid = 1) → maxRatio = 100 ∧ maxSize = 104857600) :
    maxRatio = (effLimits j).1 ∧ maxSize = (effLimits j).2 := by
  unfold effLimits
  split
  case isTrue h => exact hsec h
  case isFalse h => exact hdef h

theorem finishStage_of_withinLimits (h : withinLimits s o.length) : finishStage unit o s = nextStage o s := by
  simp only [finishStage, h.1, h.2, Bool.false_eq_true, if_false]

theorem finishStage_of_ratioExceeded
    (h : ratioExceeded s.cfg.ratioCmp o.length s.origLen (effLimits s.j).1 = true) :
    finishStage unit o s = raise (.bombRatio o.length s.origLen (effLimits s.j).1) unit s := if_pos h

theorem finishStage_of_sizeExceeded
    (hr : ratioExceeded s.cfg.ratioCmp o.length s.origLen (effLimits s.j).1 = false)
    (hs : sizeExceeded o.length (effLimits s.j).2 = true) :
    finishStage unit o s = raise (.bombSize o.length s.origLen (effLimits s.j).2) unit s := by
  simp only [finishStage, hr, hs, Bool.false_eq_true, if_false, if_true]

theorem stageOver_nextStage (o : Bytes) (s : State) : stageOver o s (nextStage o s) :=
  ⟨⟨rfl, rfl, rfl, rfl, rfl, rfl⟩, bytesKept_of_eq rfl rfl rfl, rfl, rfl, rfl, rfl, rfl, rfl, rfl, rfl, rfl, rfl, rfl⟩

theorem aborted_raise (c : Cause) (unit : Nat) (s : State) :
    aborted (causeClass c) (causeCode c) unit (causeInfo c).1 (causeInfo c).2.1 (causeInfo c).2.2.1 (causeInfo c).2.2.2
      s (raise c unit s) :=
  ⟨⟨rfl, rfl, rfl, rfl, rfl, rfl⟩, bytesKept_of_eq rfl rfl rfl, rfl, rfl, rfl, rfl, rfl, rfl, rfl, rfl, rfl, rfl, rfl⟩

theorem onlyCodec_enterCodec (p : Phase) (s : State) : onlyCodec s (enterCodec p s) :=
  ⟨⟨rfl, rfl, rfl, rfl, rfl, rfl⟩, bytesKept_of_eq rfl rfl rfl, ⟨rfl, rfl, rfl, rfl, rfl, rfl⟩, rfl, rfl, rfl, rfl⟩

/-! ## Steps without an instruction -/

theorem step_of_event {e : Event} (hs : running s) (hw : want (prepare s) = .event e) :
    step s = .next (handleEvent e (prepare s)) := by
  simp only [step_of_running hs, blockStep, hw]

theorem step_of_reject {f : Format} {bs : List Bool} {r : Reject} (hs : running s)
    (hw : want (prepare s) = .code f bs) (hd : decode f bs = .reject r) :
    step s = .next (handleReject r (prepare s)) := by
  simp only [step_of_running hs, blockStep, hw, hd]

theorem fieldM_eq_none {n : Nat} {bs : List Bool} (h : bs.length < n) : fieldM n bs = none := by
  rw [fieldM, (takeBits_none_iff n bs).2 h, Option.map_none]

/-- A byte codec without a byte left ends its run (R285, R301). -/
theorem step_of_bytesUsedUp {p : Phase} {f : Format} (h : bytesUsedUp p s) (hp : p ≠ .lzw)
    (hw : want s = .code f (restBytes s)) (hd : decode f [] = .reject .endOfInput) :
    step s = .next (handleReject .endOfInput s) := by
  obtain ⟨hs, hphase, hpos⟩ := h
  have hprep : prepare s = s := prepare_of_ne (hphase ▸ hp)
  have hrest : restBytes s = [] := by rw [restBytes, List.drop_of_length_le hpos]; rfl
  have hstep := step_of_reject hs ((congrArg want hprep).trans hw) (hrest.symm ▸ hd)
  rwa [hprep] at hstep

theorem step_of_hexUsedUp (h : bytesUsedUp .hex s) : step s = .next (hexEnd s) := by
  have hphase := h.2.1
  rw [step_of_bytesUsedUp h nofun (by rw [want, hphase]) rfl, handleReject, hphase]

theorem step_of_rlUsedUp (h : bytesUsedUp .rl s) : step s = .next (finishStage 4 s.eng.out s) := by
  have hphase := h.2.1
  rw [step_of_bytesUsedUp h nofun (by rw [want, hphase]) rfl, handleReject, hphase]

/-- The width of the next code (R255). -/
theorem codeBits_widenCode (maxBits : Nat) (r : LzwRegs) : (widenCode maxBits r).codeBits =
    if r.nextCode = 2 ^ r.codeBits - 1 ∧ r.codeBits < maxBits then r.codeBits + 1 else r.codeBits := by
  rw [widenCode, apply_ite LzwRegs.codeBits]

/-- Fewer bits than the next code has, after the early change of its width, end an LZW run (R255, R259). -/
theorem step_of_lzwShort (hs : running s) (hp : s.phase = .lzw)
    (h : (restM s).length < (widenCode s.cfg.lzwMaxBits s.eng.lzw).codeBits) :
    step s = .next (finishStage 3 s.eng.out (prepare s)) := by
  have hprep : prepare s = { s with eng := { s.eng with lzw := widenCode s.cfg.lzwMaxBits s.eng.lzw } } := if_pos hp
  have hw : want (prepare s) = .code (.lzwCode (widenCode s.cfg.lzwMaxBits s.eng.lzw).codeBits
      (prepare s).eng.lzw.nextCode (prepare s).eng.lzw.prev.isSome) (restM s) := by
    simp only [hprep, want, hp]
    rfl
  have hd : decode (.lzwCode (widenCode s.cfg.lzwMaxBits s.eng.lzw).codeBits
      (prepare s).eng.lzw.nextCode (prepare s).eng.lzw.prev.isSome) (restM s) = .reject .endOfInput := by
    simp only [decode, fieldM_eq_none h]
  rw [step_of_reject hs hw hd, hprep]
  simp only [handleReject, hp]

/-- A cut inflate run ends with the status of the cut (R191). -/
theorem step_of_inflateCut {e : IStatus} (h : inflateCut s e) : step s = .next (runEnd e s) ∧ e ≠ .ok := by
  obtain ⟨hs, f, bs, r, hw, hd, hcut⟩ := h
  have hne : s.phase ≠ .lzw := by
    rintro hp
    simp [hp] at hcut
  have hstep := step_of_reject hs ((prepare_of_ne hne).symm ▸ hw) hd
  rw [hstep, prepare_of_ne hne]
  obtain ⟨rfl, rfl, hp⟩ | ⟨rfl, ⟨hp, rfl⟩ | ⟨hp, rfl⟩ | ⟨hp, rfl⟩⟩ := hcut
  · simp only [List.mem_cons, List.not_mem_nil, or_false] at hp
    rcases hp with hp | hp | hp | hp | hp | hp | hp <;> simp [handleReject, noCodeStatus, hp]
  all_goals simp [handleReject, noCodeStatus, hp]

/-! ## The end of an ASCII85 group -/

/-- Padding with the digit 84 is adding one, scaling, and taking one off (R293). -/
theorem padGroup_add_one (n acc : Nat) : padGroup n acc + 1 = (acc + 1) * 85 ^ n := by
  induction n generalizing acc with
  | zero => simp [padGroup]
  | succ n ih =>
    rw [padGroup, ih, Nat.pow_succ']
    ring

/-- Byte `i` of a group value, most significant first (R291). -/
theorem groupBytes_eq_map {k : Nat} (hk : k ≤ 4) (v : Nat) :
    groupBytes k v = (List.range k).map fun i => BitVec.ofNat 8 (v / 256 ^ (3 - i)) := by
  have hfour : ([BitVec.ofNat 8 (v / 2 ^ 24), BitVec.ofNat 8 (v / 2 ^ 16), BitVec.ofNat 8 (v / 2 ^ 8),
      BitVec.ofNat 8 v] : Bytes) = (List.range 4).map fun i => BitVec.ofNat 8 (v / 256 ^ (3 - i)) := by
    simp [List.range_succ]
  rw [groupBytes, hfour, ← List.map_take, List.take_range, Nat.min_eq_left hk]

/-! ## The end of a stage -/

/-- The job of `s` at the end of a stage: some codec registers, and the Flate log with FLATE_STEP `n` (R163). -/
def atStageEnd (e : Engine) (n : BitVec 3) (isPartial : Bool) (s : State) : State :=
  { s with
    eng := e, status := { s.status with flateStep := n, flatePartial := s.status.flatePartial || isPartial } }

/-- The outcome `x` is the checks of R133 on the output `o` of filter `unit`; only FlateDecode writes the log (R163). -/
def checksOutput (unit : Nat) (o : Bytes) (isPartial : Bool) (x : Host.Outcome State Fault Refusal) (s : State) : Prop :=
  ∃ e n, x = .next (finishStage unit o (atStageEnd e n isPartial s)) ∧
    (unit ≠ 0 → n = s.status.flateStep ∧ isPartial = false)

/-- A codec that does not write the Flate log. -/
theorem checksOutput_of_finishStage (e : Engine) (hx : x = .next (finishStage unit o { s with eng := e })) :
    checksOutput unit o false x s :=
  ⟨e, s.status.flateStep, by rw [hx, atStageEnd, Bool.or_false], fun _ => ⟨rfl, rfl⟩⟩

/-- The Flate ladder, which logs the strategy whose output it accepts (R163). -/
theorem checksOutput_of_logFlate (e : Engine) (n : Nat)
    (hx : x = .next (finishStage 0 o (logFlate n isPartial { s with eng := e }))) : checksOutput 0 o isPartial x s :=
  ⟨e, BitVec.ofNat 3 n, hx, fun h => absurd rfl h⟩

/-- An accepted output ends the run of its strategy (R163, R170). -/
theorem runEnd_accepted {e : IStatus}
    (h : (s.eng.ladder.step < 7 ∧ (s.eng.out ≠ [] ∨ (e = .ok ∧ s.cfg.acceptCleanEmpty = true))) ∨
      (s.eng.ladder.step = 7 ∧ hasTextOp s.eng.out = true)) :
    runEnd e s = finishStage 0 s.eng.out (logFlate s.eng.ladder.step (decide (e ≠ .ok)) s) := by
  obtain ⟨hlt, hacc⟩ | ⟨h7, htext⟩ := h
  · rw [runEnd, if_neg (Nat.ne_of_lt hlt), if_pos hacc]
  · rw [runEnd, if_pos h7, if_pos htext, h7]

/-- Every end of an inflate run is a `runEnd`, whose status says whether the output is partial (R192). -/
theorem runEnd_of_runAccepted (h : runAccepted x s isPartial) :
    ∃ e r, x = .next (runEnd e (setInflate (fun _ => r) s)) ∧ isPartial = decide (e ≠ .ok) := by
  obtain ⟨⟨v, rfl, rfl⟩ | ⟨rfl, hfinal, hraw, rfl⟩ | ⟨c, rfl, rfl⟩ | ⟨c, rfl, rfl⟩ | ⟨f, rfl, rfl⟩ |
    ⟨e, rfl, hcut, rfl⟩, -⟩ := h
  · refine ⟨_, s.eng.inflate, rfl, ?_⟩
    by_cases hv : v.toNat = adler32 s.eng.out <;> simp [hv]
  · refine ⟨.ok, s.eng.inflate, ?_, rfl⟩
    show Host.Outcome.next (blockEnd s) = _
    rw [blockEnd, hfinal, hraw]
    rfl
  · exact ⟨.badLlsym, s.eng.inflate, rfl, rfl⟩
  · exact ⟨.badDsym, s.eng.inflate, rfl, rfl⟩
  · exact ⟨.btype, { s.eng.inflate with bfinal := f }, rfl, rfl⟩
  · obtain ⟨hstep, hne⟩ := step_of_inflateCut hcut
    exact ⟨e, s.eng.inflate, hstep, by simp [hne]⟩

theorem runAccepted_checksOutput (h : runAccepted x s isPartial) : checksOutput 0 s.eng.out isPartial x s := by
  obtain ⟨e, r, hx, hpart⟩ := runEnd_of_runAccepted h
  have hacc := h.2
  subst hpart
  refine checksOutput_of_logFlate { s.eng with inflate := r } s.eng.ladder.step (hx.trans ?_)
  rw [runEnd_accepted (by simpa [setInflate] using hacc)]
  rfl

/-- A non-empty answer within the capacity ends the stage (R167, R168). -/
theorem alternative_accepted {n : Nat} {present : Bool} {f : Bytes → Option Bytes} (hp : present = true)
    (hf : f s.cur = some o) (ho : o ≠ []) (hcap : overCap s.cfg o.length = false) :
    alternative n present f s = finishStage 0 o (logFlate n false s) := by
  obtain ⟨b, o, rfl⟩ := List.exists_cons_of_ne_nil ho
  simp only [alternative, hp, if_true, hf, hcap, Bool.false_eq_true, if_false]

theorem flateEnds_checksOutput (h : flateEnds o isPartial x s) : checksOutput 0 o isPartial x s := by
  obtain ⟨hrun, rfl⟩ | ⟨rfl, ho, hcap, ⟨rfl, hp, hf⟩ | ⟨rfl, hp, hf⟩⟩ := h
  · exact runAccepted_checksOutput hrun
  · exact checksOutput_of_logFlate _ 4 (congrArg Host.Outcome.next (alternative_accepted hp hf ho hcap))
  · exact checksOutput_of_logFlate _ 5 (congrArg Host.Outcome.next (alternative_accepted hp hf ho hcap))

/-- Emitted bytes within the capacity are appended. -/
theorem emit_of_fits {bs : Bytes} {k : State → State} (h : overCap s.cfg (s.eng.out ++ bs).length = false) :
    emit unit bs s k = k (appendOut bs s) := by
  rw [List.length_append] at h
  simp only [emit, h, Bool.false_eq_true, if_false]
  rfl

theorem hexEnds_checksOutput (h : hexEnds o x s) : checksOutput 1 o false x s := by
  obtain ⟨hused, rfl, ⟨hhi, rfl⟩ | ⟨d, hhi, rfl, hcap⟩⟩ := h <;> rw [step_of_hexUsedUp hused]
  · exact checksOutput_of_finishStage s.eng (by rw [hexEnd, hhi])
  · refine checksOutput_of_finishStage (appendOut [BitVec.ofNat 8 (16 * d.toNat)] s).eng ?_
    simp only [hexEnd, hhi, emit_of_fits hcap]
    rfl

theorem a85Ends_checksOutput (h : a85Ends o x s) : checksOutput 2 o false x s := by
  obtain ⟨rfl, ⟨hn, rfl⟩ | ⟨v, hv, hlo, hhi, hlt, rfl, hcap⟩⟩ := h
  · exact checksOutput_of_finishStage s.eng (congrArg Host.Outcome.next (if_pos hn))
  · have hpad : padGroup (5 - s.eng.ngrp) s.eng.acc = v := by
      have := padGroup_add_one (5 - s.eng.ngrp) s.eng.acc
      omega
    rw [← groupBytes_eq_map (by omega)] at hcap ⊢
    refine checksOutput_of_finishStage
      { s.eng with out := s.eng.out ++ groupBytes (s.eng.ngrp - 1) v, acc := 0, ngrp := 0 } ?_
    show Host.Outcome.next (a85End s) = _
    rw [a85End, if_neg (by omega), if_neg (by omega), hpad, emitGroup, if_neg (by omega), emit_of_fits hcap]
    rfl

theorem lzwPrimary_eq (h : s.cfg.lzwPrimaryPresent = true) : lzwPrimary s = Config.lzwPrimary s.cur := if_pos h

/-- An answer of LZW_PRIMARY within the capacity ends the stage (R253). -/
theorem exec_lzwDecode_of_answer (hp : s.cfg.lzwPrimaryPresent = true) (hf : Config.lzwPrimary s.cur = some o)
    (hcap : overCap s.cfg o.length = false) : exec .lzwDecode s = .next (finishStage 3 o s) := by
  show execLzwDecode s = _
  simp only [execLzwDecode, lzwPrimary_eq hp, hf, deliver, hcap, Bool.false_eq_true, if_false]

theorem lzwEnds_checksOutput (h : lzwEnds o x s) : checksOutput 3 o false x s := by
  obtain ⟨rfl, rfl⟩ | ⟨hs, hphase, rfl, rfl, hshort⟩ | ⟨rfl, hp, hf, hcap⟩ := h
  · exact checksOutput_of_finishStage s.eng rfl
  · refine checksOutput_of_finishStage (prepare s).eng ((step_of_lzwShort hs hphase ?_).trans ?_)
    · rwa [codeBits_widenCode]
    · rw [prepare, if_pos hphase]
  · exact checksOutput_of_finishStage s.eng (exec_lzwDecode_of_answer hp hf hcap)

theorem rlEnds_checksOutput (h : rlEnds o x s) : checksOutput 4 o false x s := by
  obtain ⟨rfl, rfl | ⟨hused, rfl⟩⟩ := h
  · exact checksOutput_of_finishStage s.eng rfl
  · exact checksOutput_of_finishStage s.eng (step_of_rlUsedUp hused)

/-- Every end of a filter stage is the checks of R133 on its output. -/
theorem stageEnds_checksOutput (h : stageEnds unit o isPartial x s) : checksOutput unit o isPartial x s := by
  obtain ⟨rfl, h⟩ | ⟨rfl, ⟨rfl, h⟩ | ⟨rfl, h⟩ | ⟨rfl, h⟩ | ⟨rfl, h⟩ |
    ⟨rfl, ⟨rfl, rfl⟩ | ⟨rfl, rfl⟩ | ⟨rfl, rfl⟩⟩⟩ := h
  · exact flateEnds_checksOutput h
  · exact hexEnds_checksOutput h
  · exact a85Ends_checksOutput h
  · exact lzwEnds_checksOutput h
  · exact rlEnds_checksOutput h
  all_goals exact checksOutput_of_finishStage s.eng rfl

/-- An exception discards the codec registers, and FLATE_STEP where it is FlateDecode's (R426). -/
theorem raise_atStageEnd (c : Cause) {e : Engine} {n : BitVec 3} (hn : unit ≠ 0 → n = s.status.flateStep) :
    raise c unit (atStageEnd e n isPartial s) = raise c unit (atStageEnd s.eng s.status.flateStep isPartial s) := by
  by_cases h : unit = 0
  · simp only [raise, atStageEnd, h, if_true]
  · rw [hn h]
    rfl

end Sys2Proof.Machine

open Sys2Proof Sys2Proof.Machine

/-- Settles O19: every end of a stage is `finishStage` on its output (`stageEnds_checksOutput`), which checks the ratio and
then the size. -/
theorem stageEndsAreChecked : Obligations.StageEndsAreChecked := by
  unfold Obligations.StageEndsAreChecked
  intro unit o isPartial x s maxRatio maxSize hends hsec hdef
  obtain ⟨e, n, rfl, hn⟩ := stageEnds_checksOutput hends
  obtain ⟨rfl, rfl⟩ := effLimits_eq hsec hdef
  simp only [← ratioExceeded_iff, ← sizeExceeded_iff, Bool.not_eq_true]
  refine ⟨fun hr hs => ⟨_, rfl, ?_⟩, fun hr => ⟨_, rfl, ?_⟩, fun hr hs => ⟨_, rfl, ?_⟩⟩
  · rw [finishStage_of_withinLimits (s := atStageEnd e n isPartial s) ⟨hr, hs⟩]
    refine ⟨stageOver_nextStage o (atStageEnd e n isPartial s), fun hu => ?_⟩
    obtain ⟨rfl, rfl⟩ := hn hu
    rw [nextStage_status, atStageEnd, Bool.or_false]
  · rw [finishStage_of_ratioExceeded (s := atStageEnd e n isPartial s) hr, raise_atStageEnd _ fun hu => (hn hu).1]
    exact aborted_raise _ unit _
  · rw [finishStage_of_sizeExceeded (s := atStageEnd e n isPartial s) hr hs, raise_atStageEnd _ fun hu => (hn hu).1]
    exact aborted_raise _ unit _

/-- Settles O20: the completion event, and a read after the write of the result (`readByte_writeBytes`). -/
theorem completionDeliversTheResult : Obligations.CompletionDeliversTheResult := by
  unfold Obligations.CompletionDeliversTheResult
  intro s hs hp hstage hlegal hlen
  have hprep : prepare s = s := prepare_of_ne (by simp [hp])
  have hw : want (prepare s) = .event .complete := by
    simp [hprep, want, hp, hstage]
  have hbits : s.cfg.lenBits ≤ 64 := by
    simp only [Config.legal, Bool.and_eq_true, decide_eq_true_eq] at hlegal
    omega
  have hstep : step s = .next (finishJob s.cur s) := by rw [step_of_event hs hw, hprep]; rfl
  refine ⟨_, hstep, rfl, lenWord_toNat _ _ hbits hlen, fun a ha => ?_, fun a ha => ?_, fun _ => rfl, fun _ => rfl,
    ⟨rfl, rfl, rfl, rfl, rfl, rfl⟩, rfl, rfl, rfl, rfl⟩
  · rw [finishJob_out, readByte_writeBytes, if_pos (by omega), Nat.sub_zero]
  · rw [finishJob_out, readByte_writeBytes, if_neg (by omega)]

/-- Settles O22: the codecs begin by `enterCodec`; an answer of LZW_PRIMARY ends its stage by `finishStage`. -/
theorem codecsBeginAtTheirFirstByte : Obligations.CodecsBeginAtTheirFirstByte := by
  unfold Obligations.CodecsBeginAtTheirFirstByte
  refine ⟨?_, fun s => ?_, fun s hp => ?_, fun s o hp hf hcap hlim => ?_, fun s hp hf => ?_⟩
  · intro p hp s
    have hexec : exec p.1 s = .next (enterCodec p.2 s) := by fin_cases hp <;> rfl
    exact ⟨_, hexec, onlyCodec_enterCodec p.2 s, rfl, rfl⟩
  · exact ⟨_, rfl, onlyCodec_enterCodec .ladder s, rfl, rfl⟩
  · have hexec : exec .lzwDecode s = .next (enterCodec .lzw s) := by
      show execLzwDecode s = _
      simp [execLzwDecode, lzwPrimary, hp]
    exact ⟨_, hexec, onlyCodec_enterCodec .lzw s, rfl, rfl⟩
  · refine ⟨_, exec_lzwDecode_of_answer hp hf hcap, ?_⟩
    rw [finishStage_of_withinLimits hlim]
    exact ⟨stageOver_nextStage o s, rfl⟩
  · have hexec : exec .lzwDecode s = .next (enterCodec .lzw (setLzwFallback s)) := by
      show execLzwDecode s = _
      simp [execLzwDecode, lzwPrimary_eq hp, hf, hp]
    exact ⟨_, hexec, ⟨rfl, rfl, rfl, rfl, rfl, rfl⟩, bytesKept_of_eq rfl rfl rfl, ⟨rfl, rfl, rfl, rfl⟩, rfl, rfl, rfl⟩

end

section
/-! The Flate ladder (R162 to R172): how each strategy begins, which output ends the stage, and where a run without
accepted output leads. -/

namespace Sys2Proof.Machine

open Sys2Proof

variable {s : State} {o : Bytes} {isPartial : Bool} {x : Host.Outcome State Fault Refusal}

/-! ## HasTextOp -/

/-- One of the six tokens begins at place `k` (R171). -/
def textOpAt (o : Bytes) (k : Nat) : Prop := ∃ p ∈ textOps, o[k]? = some p.1 ∧ o[k + 1]? = some p.2

/-- At the front of a sequence a token is its first two bytes. -/
theorem textOpAt_zero_iff (a b : Byte) (rest : Bytes) : textOpAt (a :: b :: rest) 0 ↔ (a, b) ∈ textOps := by
  constructor
  · rintro ⟨⟨c, d⟩, hp, hc, hd⟩
    obtain ⟨rfl, rfl⟩ : a = c ∧ b = d := ⟨Option.some.inj hc, Option.some.inj hd⟩
    exact hp
  · exact fun h => ⟨(a, b), h, rfl, rfl⟩

/-- Behind the first byte the tokens are those of the rest. -/
theorem textOpAt_cons_succ (a : Byte) (o : Bytes) (k : Nat) : textOpAt (a :: o) (k + 1) = textOpAt o k := rfl

/-- A token has two bytes. -/
theorem not_textOpAt_of_length_le {k : Nat} (h : o.length ≤ k + 1) : ¬ textOpAt o k := by
  rintro ⟨p, -, -, hsnd⟩
  rw [List.getElem?_eq_none h] at hsnd
  cases hsnd

theorem hasTextOp_iff_exists (o : Bytes) : hasTextOp o = true ↔ ∃ k, textOpAt o k := by
  induction o with
  | nil => simpa [hasTextOp] using fun k => not_textOpAt_of_length_le (Nat.zero_le _)
  | cons a o ih =>
    cases o with
    | nil => simpa [hasTextOp] using fun k => not_textOpAt_of_length_le (by simp)
    | cons b rest =>
      calc hasTextOp (a :: b :: rest) = true
          ↔ (a, b) ∈ textOps ∨ hasTextOp (b :: rest) = true := by
            rw [hasTextOp, Bool.or_eq_true, List.contains_iff_mem]
        _ ↔ textOpAt (a :: b :: rest) 0 ∨ ∃ k, textOpAt (a :: b :: rest) (k + 1) := by
            simp only [ih, textOpAt_zero_iff, textOpAt_cons_succ]
        _ ↔ ∃ k, textOpAt (a :: b :: rest) k := Nat.or_exists_add_one

/-! ## The beginnings of the strategies -/

/-- A change of the sequencer's place and of the codec registers alone. -/
theorem onlyCodec_setCodec (p : Phase) (e : Engine) (s : State) : onlyCodec s { s with phase := p, eng := e } :=
  ⟨⟨rfl, rfl, rfl, rfl, rfl, rfl⟩, bytesKept_of_eq rfl rfl rfl, ⟨rfl, rfl, rfl, rfl, rfl, rfl⟩, rfl, rfl, rfl, rfl⟩

/-- The repaired first byte of FLATE_S6, bit by bit: the high four bits stay, the low four are 8 (R169). -/
theorem repairedByte_eq (c : Byte) : BitVec.ofNat 8 (c.toNat / 16 * 16 + 8) = (c &&& 0xF0) ||| 8 := by
  revert c
  decide

theorem repairHeader_cons (c : Byte) (rest : Bytes) : repairHeader (c :: rest) = ((c &&& 0xF0) ||| 8) :: rest := by
  rw [repairHeader, repairedByte_eq]

/-- FLATE_S6 is not attempted where there is no first byte or its low four bits are 8 already (R162). -/
theorem needsRepair_eq_false_iff (b : Bytes) :
    needsRepair b = false ↔ ∀ c rest, b = c :: rest → c.toNat % 16 = 8 := by
  cases b <;> simp [needsRepair]

theorem exec_flateS6_of_needsRepair (h : needsRepair s.cur = true) :
    exec .flateS6 s = .next (beginRun true (repairHeader s.cur) 0 (setStrategy 6 s)) :=
  congrArg Host.Outcome.next (if_pos h)

theorem exec_flateS6_of_not_needsRepair (h : needsRepair s.cur = false) :
    exec .flateS6 s = .next (failStrategy .empty (setStrategy 6 s)) :=
  congrArg Host.Outcome.next (if_neg (ne_true_of_eq_false h))

/-! ## A strategy that fails -/

/-- Only the first two strategies record their error (R162). -/
theorem failStrategy_setStrategy_eng (e : IStatus) {n : Nat} (hn : 2 < n) (s : State) :
    (failStrategy e (setStrategy n s)).eng =
      { Engine.empty with ladder := { s.eng.ladder with step := n + 1 } } := by
  have hstep : (setStrategy n s).eng.ladder.step = n := rfl
  rw [failStrategy_eng, hstep, if_neg (by omega), if_neg (by omega)]
  rfl

/-- A function that is absent, or gives nothing, fails its strategy (R167, R168). -/
theorem alternative_of_noAnswer {n : Nat} {present : Bool} {f : Bytes → Option Bytes}
    (h : present = false ∨ f s.cur = none ∨ f s.cur = some []) : alternative n present f s = failStrategy .empty s := by
  obtain ⟨o, ho, hp, hf, -⟩ | hfail := alternative_cases n present f s
  · simp [hp, hf, ho] at h
  · exact hfail

/-! ## The ends of a run -/

/-- An output within the limits ends the stage, and what is logged is all that changes of STATUS (R133, R163). -/
theorem stageOver_logFlate (n : Nat) (isPartial : Bool) (e : Engine) (h : withinLimits s o.length) :
    stageOver o s (finishStage 0 o (logFlate n isPartial { s with eng := e })) ∧
      (finishStage 0 o (logFlate n isPartial { s with eng := e })).status = { s.status with
        flateStep := BitVec.ofNat 3 n, flatePartial := s.status.flatePartial || isPartial } := by
  rw [finishStage_of_withinLimits (s := logFlate n isPartial { s with eng := e }) h]
  exact ⟨stageOver_nextStage o (logFlate n isPartial { s with eng := e }), rfl⟩

/-- A run that ends with accepted output ends the stage, its strategy logged (R163). -/
theorem finishStage_of_runAccepted (h : runAccepted x s isPartial) :
    ∃ r, x = .next (finishStage 0 s.eng.out (logFlate s.eng.ladder.step isPartial (setInflate (fun _ => r) s))) := by
  obtain ⟨st, r, rfl, hpart⟩ := runEnd_of_runAccepted h
  have hacc := h.2
  subst hpart
  rw [runEnd_accepted (by simpa [setInflate] using hacc)]
  exact ⟨r, rfl⟩

/-- An inflate run is over with the outcome `x`, and `e` is the status the ladder reports of it if it fails: I_EMPTY
where the run ended cleanly (R162, R192). -/
def runOver (x : Host.Outcome State Fault Refusal) (s : State) (e : IStatus) : Prop :=
  (∃ c, x = exec (.llIllegal c) s ∧ e = .badLlsym) ∨ (∃ c, x = exec (.dIllegal c) s ∧ e = .badDsym) ∨
    (∃ f, x = exec (.blkReserved f) s ∧ e = .btype) ∨ (x = step s ∧ inflateCut s e) ∨
    (∃ v : BitVec 32, x = exec (.zlibTrailer v) s ∧ v.toNat ≠ adler32 s.eng.out ∧ e = .adler) ∨
    (∃ v : BitVec 32, x = exec (.zlibTrailer v) s ∧ v.toNat = adler32 s.eng.out ∧ e = .empty) ∨
    (x = exec .eob s ∧ s.eng.inflate.bfinal = true ∧ s.eng.inflate.zlib = false ∧ e = .empty)

theorem exec_zlibTrailer (v : BitVec 32) (s : State) : exec (.zlibTrailer v) s =
    .next (runEnd (if v.toNat = adler32 s.eng.out then .ok else .adler) s) := rfl

/-- The end of the final block of a raw run is a clean end (R198). -/
theorem exec_eob_of_rawFinal (hfinal : s.eng.inflate.bfinal = true) (hraw : s.eng.inflate.zlib = false) :
    exec .eob s = .next (runEnd .ok s) := by
  show Host.Outcome.next (blockEnd s) = _
  rw [blockEnd, if_pos hfinal, hraw, if_neg Bool.false_ne_true]

/-- Every end of a run is a `runEnd`, and only a reserved block changes an inflate register before it. -/
theorem runEnd_of_runOver {e : IStatus} (h : runOver x s e) :
    ∃ st r, x = .next (runEnd st (setInflate (fun _ => r) s)) ∧ e = ladderError st := by
  obtain ⟨c, rfl, rfl⟩ | ⟨c, rfl, rfl⟩ | ⟨f, rfl, rfl⟩ | ⟨rfl, hcut⟩ | ⟨v, rfl, hv, rfl⟩ | ⟨v, rfl, hv, rfl⟩ |
    ⟨rfl, hfinal, hraw, rfl⟩ := h
  · exact ⟨.badLlsym, s.eng.inflate, rfl, rfl⟩
  · exact ⟨.badDsym, s.eng.inflate, rfl, rfl⟩
  · exact ⟨.btype, { s.eng.inflate with bfinal := f }, rfl, rfl⟩
  · obtain ⟨hstep, hne⟩ := step_of_inflateCut hcut
    exact ⟨e, s.eng.inflate, hstep, (if_neg hne).symm⟩
  · exact ⟨.adler, s.eng.inflate, by rw [exec_zlibTrailer, if_neg hv]; rfl, rfl⟩
  · exact ⟨.ok, s.eng.inflate, by rw [exec_zlibTrailer, if_pos hv]; rfl, rfl⟩
  · exact ⟨.ok, s.eng.inflate, exec_eob_of_rawFinal hfinal hraw, rfl⟩

/-- Strategies 1 to 6 fail without output, unless a clean end is accepted (R162, R163). -/
theorem runEnd_of_noOutput {st : IStatus} (h7 : s.eng.ladder.step < 7) (hout : s.eng.out = [])
    (hclean : ¬ (ladderError st = .empty ∧ s.cfg.acceptCleanEmpty = true)) :
    runEnd st s = failStrategy (ladderError st) s := by
  have hacc : ¬ (s.eng.out ≠ [] ∨ (st = .ok ∧ s.cfg.acceptCleanEmpty = true)) := by
    rintro (h | ⟨rfl, h⟩)
    · exact h hout
    · exact hclean ⟨rfl, h⟩
  rw [runEnd, if_neg (Nat.ne_of_lt h7), if_neg hacc]

/-- Strategy 7 scans on without a text operator (R170). -/
theorem runEnd_of_noTextOp {st : IStatus} (h7 : s.eng.ladder.step = 7) (htext : hasTextOp s.eng.out = false) :
    runEnd st s = scanNext s := by
  rw [runEnd, if_pos h7, htext, if_neg Bool.false_ne_true]

theorem scanNext_of_le (h : nextOffset s.eng.ladder.off ≤ 20) :
    scanNext s = beginRun false s.cur (nextOffset s.eng.ladder.off)
      { s with eng := { s.eng with ladder := { s.eng.ladder with off := nextOffset s.eng.ladder.off } } } :=
  if_neg (Nat.not_lt.2 h)

theorem scanNext_of_lt (h : 20 < nextOffset s.eng.ladder.off) : scanNext s = allFailed s := if_pos h

end Sys2Proof.Machine

open Sys2Proof Sys2Proof.Machine

/-- Settles O32, by induction on the sequence: a token stands at its front or in its rest. -/
theorem textOperatorTest : Obligations.TextOperatorTest := by
  unfold Obligations.TextOperatorTest
  exact hasTextOp_iff_exists

/-- Settles O28: every strategy but FLATE_S6 is a `beginRun`; FLATE_S6 is one where the header needs the repair, and fails
otherwise. -/
theorem strategiesBeginTheirRuns : Obligations.StrategiesBeginTheirRuns := by
  unfold Obligations.StrategiesBeginTheirRuns
  refine ⟨?_, fun s => ⟨_, rfl, onlyCodec_setCodec _ _ s, rfl, rfl⟩, fun s c rest hcur hc => ?_, fun s h => ?_⟩
  · intro p hp s
    fin_cases hp <;> exact ⟨_, rfl, onlyCodec_setCodec _ _ s, rfl, rfl⟩
  · have hneeds : needsRepair s.cur = true := by simpa [hcur, needsRepair] using hc
    refine ⟨_, exec_flateS6_of_needsRepair hneeds, onlyCodec_setCodec _ _ s, rfl, ?_⟩
    rw [beginRun_eng, hcur, repairHeader_cons]
    rfl
  · exact ⟨_, exec_flateS6_of_not_needsRepair ((needsRepair_eq_false_iff s.cur).2 h), onlyCodec_setCodec _ _ s, rfl,
      failStrategy_setStrategy_eng .empty (by omega) s⟩

/-- Settles O29: both strategies are `alternative` with their function. -/
theorem alternativeInflatersMayAnswer : Obligations.AlternativeInflatersMayAnswer := by
  unfold Obligations.AlternativeInflatersMayAnswer
  intro n i f s present hi
  have hexec : exec i s = .next (alternative n present f (setStrategy n s)) := by
    obtain ⟨rfl, rfl, rfl, rfl⟩ | ⟨rfl, rfl, rfl, rfl⟩ := hi <;> rfl
  have hn : 2 < n := by omega
  refine ⟨fun hnone => ?_, fun o hp hf ho hcap hlim => ?_⟩
  · rw [hexec, alternative_of_noAnswer (s := setStrategy n s) hnone]
    exact ⟨_, rfl, onlyCodec_setCodec _ _ s, rfl, failStrategy_setStrategy_eng .empty hn s⟩
  · rw [hexec, alternative_accepted (s := setStrategy n s) hp hf ho hcap]
    obtain ⟨hover, hlog⟩ := stageOver_logFlate n false (setStrategy n s).eng hlim
    exact ⟨_, rfl, hover, by rwa [Bool.or_false] at hlog⟩

/-- Settles O30: an accepted run ends its stage by `finishStage`, which within the limits is the next stage. -/
theorem flateOutputIsAccepted : Obligations.FlateOutputIsAccepted := by
  unfold Obligations.FlateOutputIsAccepted
  intro x s isPartial hacc hlim
  obtain ⟨r, rfl⟩ := finishStage_of_runAccepted hacc
  exact ⟨_, rfl, stageOver_logFlate s.eng.ladder.step isPartial (setInflate (fun _ => r) s).eng hlim⟩

/-- Settles O31: every end is a `runEnd` (`runEnd_of_runOver`), which without accepted output is `failStrategy` or
`scanNext`. -/
theorem flateFailureGoesOn : Obligations.FlateFailureGoesOn := by
  unfold Obligations.FlateFailureGoesOn
  intro x s e next hover hnext
  obtain ⟨st, r, rfl, rfl⟩ := runEnd_of_runOver hover
  subst hnext
  refine ⟨fun h7 hout hclean => ⟨_, rfl, ?_⟩, fun h7 htext hle => ⟨_, rfl, ?_⟩, fun h7 htext hlt => ⟨_, rfl, ?_⟩⟩
  · rw [runEnd_of_noOutput (s := setInflate (fun _ => r) s) h7 hout hclean]
    exact ⟨onlyCodec_setCodec _ _ s, rfl, rfl⟩
  · rw [runEnd_of_noTextOp (s := setInflate (fun _ => r) s) h7 htext,
      scanNext_of_le (s := setInflate (fun _ => r) s) hle]
    exact ⟨onlyCodec_setCodec _ _ s, rfl, rfl⟩
  · rw [runEnd_of_noTextOp (s := setInflate (fun _ => r) s) h7 htext,
      scanNext_of_lt (s := setInflate (fun _ => r) s) hlt]
    exact aborted_raise (.flateAllFailed s.cur.length s.eng.ladder.e1 s.eng.ladder.e2) 0 (setInflate (fun _ => r) s)

end

section
/-! Canonical Huffman codes (R202): which sets of lengths BuildCode accepts, and that in its table no code begins
another. -/

namespace Sys2Proof.Machine

open Sys2Proof

variable {lengths : List Nat} {kind : CodeKind} {t : HuffTable} {e e' : HuffEntry}

/-! ## The codes of each length -/

/-- The code after the last one of length `l` (R202). -/
def codeEnd (lengths : List Nat) (l : Nat) : Nat := firstCode lengths l + lenCount lengths l

theorem firstCode_succ (lengths : List Nat) (l : Nat) : firstCode lengths (l + 1) = 2 * codeEnd lengths l :=
  Nat.mul_comm _ 2

theorem lenCount_of_pos {l : Nat} (h : 0 < l) : lenCount lengths l = lengths.count l := if_neg (Nat.ne_of_gt h)

theorem codeEnd_zero (lengths : List Nat) : codeEnd lengths 0 = 0 := rfl

theorem codeEnd_succ (lengths : List Nat) (l : Nat) :
    codeEnd lengths (l + 1) = 2 * codeEnd lengths l + lengths.count (l + 1) := by
  rw [codeEnd, firstCode_succ, lenCount_of_pos (Nat.succ_pos l)]

/-- The codes of length `l`, extended by `k` bits, end no later than the codes of length `l + k`. -/
theorem codeEnd_mul_le (lengths : List Nat) (l k : Nat) : codeEnd lengths l * 2 ^ k ≤ codeEnd lengths (l + k) := by
  induction k with
  | zero => simp
  | succ k ih =>
    calc codeEnd lengths l * 2 ^ (k + 1) = 2 * (codeEnd lengths l * 2 ^ k) := by ring
      _ ≤ 2 * codeEnd lengths (l + k) := Nat.mul_le_mul_left 2 ih
      _ ≤ codeEnd lengths (l + (k + 1)) := by rw [← Nat.add_assoc, codeEnd_succ]; omega

/-- The codes of a length, extended to a greater one, end no later than the codes of that length begin. -/
theorem codeEnd_mul_le_firstCode {l l' : Nat} (h : l < l') :
    codeEnd lengths l * 2 ^ (l' - l) ≤ firstCode lengths l' := by
  obtain ⟨k, rfl⟩ := Nat.exists_eq_add_of_lt h
  have hk : l + k + 1 - l = k + 1 := by omega
  rw [firstCode_succ, hk, Nat.pow_succ', Nat.mul_left_comm]
  exact Nat.mul_le_mul_left 2 (codeEnd_mul_le lengths l k)

/-- The first code of a length as the sum over the shorter ones (R202). -/
theorem firstCode_eq_sum (lengths : List Nat) (l : Nat) : firstCode lengths l =
    ((List.range l).map fun k => if k = 0 then 0 else lengths.count k * 2 ^ (l - k)).sum := by
  induction l with
  | zero => rfl
  | succ l ih =>
    have hdouble : ((List.range l).map fun k => if k = 0 then 0 else lengths.count k * 2 ^ (l + 1 - k)) =
        (List.range l).map fun k => 2 * if k = 0 then 0 else lengths.count k * 2 ^ (l - k) := by
      refine List.map_congr_left fun k hk => ?_
      rw [Nat.succ_sub (List.mem_range.1 hk).le, Nat.pow_succ]
      split <;> ring
    rw [firstCode_succ, codeEnd, ih, List.range_succ, List.map_append, List.sum_append, hdouble,
      List.sum_map_mul_left, lenCount]
    simp only [List.map_cons, List.map_nil, List.sum_singleton, Nat.add_sub_cancel_left, pow_one]
    split <;> ring

/-! ## The Kraft sum -/

/-- The share of the codes of length `l` that a symbol of length `x` takes. -/
def share (l x : Nat) : Nat := if x = 0 ∨ l < x then 0 else 2 ^ (l - x)

theorem share_succ (l x : Nat) : share (l + 1) x = 2 * share l x + if x = l + 1 then 1 else 0 := by
  unfold share
  obtain h | rfl | h : x ≤ l ∨ x = l + 1 ∨ l + 1 < x := by omega
  · rw [if_neg (by omega : ¬ x = l + 1), Nat.succ_sub h, Nat.pow_succ, Nat.mul_comm]
    by_cases hx : x = 0
    · simp [hx]
    · rw [if_neg (by omega), if_neg (by omega)]; rfl
  · simp
  · rw [if_pos (by omega), if_pos (by omega), if_neg (by omega)]

theorem sum_map_ite_eq_count (lengths : List Nat) (l : Nat) :
    (lengths.map fun x => if x = l then 1 else 0).sum = lengths.count l := by
  induction lengths with
  | nil => rfl
  | cons x lengths ih => simp [List.count_cons, ih, Nat.add_comm]

/-- The codes of length `l` and their beginnings are shared out to the symbols. -/
theorem codeEnd_eq_sum_share (lengths : List Nat) (l : Nat) : codeEnd lengths l = (lengths.map (share l)).sum := by
  induction l with
  | zero =>
    have hzero : lengths.map (share 0) = lengths.map fun _ => 0 :=
      List.map_congr_left fun x _ => if_pos (by omega)
    rw [hzero, codeEnd_zero]
    simp
  | succ l ih =>
    rw [codeEnd_succ, ih, funext (share_succ l), List.sum_map_add, List.sum_map_mul_left]
    rw [sum_map_ite_eq_count]

/-- What is left of the codes of length `l`, unless the symbols take too many (R202). -/
theorem codeLeft_eq (lengths : List Nat) (l : Nat) :
    codeLeft lengths l = if codeEnd lengths l ≤ 2 ^ l then some (2 ^ l - codeEnd lengths l) else none := by
  induction l with
  | zero => rfl
  | succ l ih =>
    have hend : codeEnd lengths (l + 1) = 2 * codeEnd lengths l + lengths.count l.succ := codeEnd_succ lengths l
    have hpow : 2 ^ (l + 1) = 2 * 2 ^ l := Nat.pow_succ'
    rw [codeLeft, ih, lenCount_of_pos (Nat.succ_pos l)]
    by_cases hfits : codeEnd lengths l ≤ 2 ^ l
    · simp only [if_pos hfits]
      by_cases hnext : codeEnd lengths (l + 1) ≤ 2 ^ (l + 1)
      · rw [if_neg (by omega), if_pos hnext]
        congr 1
        omega
      · rw [if_pos (by omega), if_neg hnext]
    · simp only [if_neg hfits]
      rw [if_neg (by omega)]

/-! ## What BuildCode accepts -/

theorem foldl_max_le_iff (lengths : List Nat) (m n : Nat) :
    lengths.foldl max m ≤ n ↔ m ≤ n ∧ ∀ l ∈ lengths, l ≤ n := by
  induction lengths generalizing m with
  | nil => simp
  | cons l lengths ih => simp [ih, and_assoc]

theorem maxLen_le_iff (n : Nat) : maxLen lengths ≤ n ↔ ∀ l ∈ lengths, l ≤ n := by
  simp [maxLen, foldl_max_le_iff]

theorem lt_maxLen_iff (n : Nat) : n < maxLen lengths ↔ ∃ l ∈ lengths, n < l := by
  rw [← not_le, maxLen_le_iff]
  push Not
  rfl

/-- With no length in use no code is. -/
theorem codeEnd_of_maxLen_eq_zero (h : maxLen lengths = 0) (l : Nat) : codeEnd lengths l = 0 := by
  have hzero : ∀ x ∈ lengths, share l x = 0 := fun x hx =>
    if_pos (.inl (Nat.le_zero.1 ((maxLen_le_iff 0).1 h.le x hx)))
  rw [codeEnd_eq_sum_share, List.map_congr_left hzero]
  simp

theorem buildCode_of_oversubscribed (h : 2 ^ 15 < codeEnd lengths 15) : buildCode kind lengths = .error .oversub := by
  have hleft : codeLeft lengths 15 = none := by rw [codeLeft_eq, if_neg (Nat.not_le.2 h)]
  unfold buildCode
  generalize codeLeft lengths 15 = left at hleft
  subst hleft
  rfl

/-- BuildCode where the codes are not oversubscribed (R202). -/
theorem buildCode_of_fits (h : codeEnd lengths 15 ≤ 2 ^ 15) : buildCode kind lengths =
    if maxLen lengths = 0 then (if kind = .cl then .error .incomplete else .ok [])
    else if codeEnd lengths 15 < 2 ^ 15 ∧ (kind = .cl ∨ maxLen lengths ≠ 1) then .error .incomplete
    else .ok (canonicalTable lengths) := by
  have hleft : codeLeft lengths 15 = some (2 ^ 15 - codeEnd lengths 15) := by rw [codeLeft_eq, if_pos h]
  unfold buildCode
  generalize codeLeft lengths 15 = left at hleft
  subst hleft
  simp only [Nat.sub_pos_iff_lt]

theorem buildCode_of_incomplete (h : codeEnd lengths 15 < 2 ^ 15) (hstrict : kind = .cl ∨ 1 < maxLen lengths) :
    buildCode kind lengths = .error .incomplete := by
  rw [buildCode_of_fits h.le]
  split
  case isTrue hmax => rw [if_pos (hstrict.resolve_right (by omega))]
  case isFalse hmax => rw [if_pos ⟨h, hstrict.imp_right (by omega)⟩]

theorem buildCode_of_accepted
    (h : codeEnd lengths 15 = 2 ^ 15 ∨ (codeEnd lengths 15 < 2 ^ 15 ∧ ¬ (kind = .cl ∨ 1 < maxLen lengths))) :
    ∃ t, buildCode kind lengths = .ok t := by
  rw [buildCode_of_fits (h.elim Nat.le_of_eq fun h => h.1.le)]
  by_cases hmax : maxLen lengths = 0
  · have hend := codeEnd_of_maxLen_eq_zero hmax 15
    have hkind : kind ≠ .cl := fun hk => by
      obtain h | ⟨-, h⟩ := h
      · omega
      · exact h (.inl hk)
    exact ⟨[], by rw [if_pos hmax, if_neg hkind]⟩
  · refine ⟨canonicalTable lengths, ?_⟩
    rw [if_neg hmax, if_neg]
    rintro ⟨hlt, hstrict⟩
    obtain h | ⟨-, h⟩ := h
    · omega
    · exact h (hstrict.imp_right (by omega))

/-! ## The table -/

/-- The entries of one length are its symbols in order, their codes counted on from the first (R202). -/
theorem mem_codesOfLength {l code sym : Nat} : e ∈ codesOfLength l code sym lengths ↔
    ∃ k, lengths[k]? = some l ∧ e = ⟨l, code + (lengths.take k).count l, sym + k⟩ := by
  induction lengths generalizing code sym with
  | nil => simp [codesOfLength]
  | cons x lengths ih =>
    rw [← Nat.or_exists_add_one]
    by_cases hx : x = l
    · subst hx
      simp [codesOfLength, ih, Nat.add_assoc, Nat.add_comm 1]
    · simp [codesOfLength, ih, hx, Nat.add_assoc, Nat.add_comm 1]

/-- The entries of the table are the symbols in use, each with the code R202 gives it. -/
theorem mem_canonicalTable : e ∈ canonicalTable lengths ↔
    1 ≤ e.len ∧ e.len ≤ 15 ∧ lengths[e.sym]? = some e.len ∧
      e.code = firstCode lengths e.len + (lengths.take e.sym).count e.len := by
  simp only [canonicalTable, List.mem_flatMap, List.mem_range, mem_codesOfLength, Nat.zero_add]
  constructor
  · rintro ⟨k, hk, sym, hsym, rfl⟩
    exact ⟨Nat.succ_pos k, hk, hsym, rfl⟩
  · rintro ⟨hpos, hle, hsym, hcode⟩
    obtain ⟨k, hk⟩ := Nat.exists_eq_add_of_le' hpos
    refine ⟨k, by omega, e.sym, by rwa [← hk], ?_⟩
    rw [← hk, ← hcode]

/-- A symbol of length `l` counts among those of its length. -/
theorem count_take_lt {k l : Nat} (h : lengths[k]? = some l) : (lengths.take k).count l < lengths.count l := by
  obtain ⟨hk, hl⟩ := List.getElem?_eq_some_iff.1 h
  calc (lengths.take k).count l < (lengths.take k).count l + (lengths.drop k).count l := by
        rw [List.drop_eq_getElem_cons hk, hl, List.count_cons_self]; omega
    _ = lengths.count l := by rw [← List.count_append, List.take_append_drop]

theorem code_lt_codeEnd (h : e ∈ canonicalTable lengths) : e.code < codeEnd lengths e.len := by
  obtain ⟨hpos, -, hsym, hcode⟩ := mem_canonicalTable.1 h
  have := count_take_lt hsym
  rw [codeEnd, lenCount_of_pos hpos]
  omega

/-- The code of `e`, extended to the length of `e'`, ends at or before the code of `e'`. -/
def endsBefore (e e' : HuffEntry) : Prop := e.len ≤ e'.len ∧ (e.code + 1) * 2 ^ (e'.len - e.len) ≤ e'.code

theorem not_codeBegins_of_endsBefore (h : endsBefore e e') :
    ¬ codeBegins e.len e.code e'.len e'.code ∧ ¬ codeBegins e'.len e'.code e.len e.code := by
  obtain ⟨hle, hcode⟩ := h
  constructor
  · rintro ⟨-, hbegin⟩
    have := (Nat.le_div_iff_mul_le (Nat.two_pow_pos (e'.len - e.len))).2 hcode
    omega
  · rintro ⟨hge, hbegin⟩
    have hlen : e'.len = e.len := le_antisymm hge hle
    simp only [hlen, Nat.sub_self, pow_zero, Nat.div_one, Nat.mul_one] at hbegin hcode
    omega

theorem codesOfLength_pairwise_endsBefore (l code sym : Nat) (lengths : List Nat) :
    (codesOfLength l code sym lengths).Pairwise endsBefore := by
  induction lengths generalizing code sym with
  | nil => exact .nil
  | cons x lengths ih =>
    rw [codesOfLength]
    split
    · refine .cons (fun e he => ?_) (ih _ _)
      obtain ⟨k, -, rfl⟩ := mem_codesOfLength.1 he
      simp [endsBefore]
    · exact ih _ _

/-- Shorter codes come first (R202). -/
theorem endsBefore_of_len_lt (he : e ∈ canonicalTable lengths) (he' : e' ∈ canonicalTable lengths)
    (hlt : e.len < e'.len) : endsBefore e e' := by
  obtain ⟨-, -, -, hcode'⟩ := mem_canonicalTable.1 he'
  refine ⟨hlt.le, ?_⟩
  calc (e.code + 1) * 2 ^ (e'.len - e.len)
      ≤ codeEnd lengths e.len * 2 ^ (e'.len - e.len) := Nat.mul_le_mul_right _ (code_lt_codeEnd he)
    _ ≤ firstCode lengths e'.len := codeEnd_mul_le_firstCode hlt
    _ ≤ e'.code := hcode' ▸ Nat.le_add_right _ _

theorem canonicalTable_pairwise_endsBefore (lengths : List Nat) : (canonicalTable lengths).Pairwise endsBefore := by
  refine List.pairwise_flatMap.2 ⟨fun k _ => codesOfLength_pairwise_endsBefore _ _ _ _, ?_⟩
  refine List.pairwise_lt_range.imp_of_mem fun {k k'} hk hk' hlt e he e' he' => ?_
  have hmem : e ∈ canonicalTable lengths := List.mem_flatMap.2 ⟨k, hk, he⟩
  have hmem' : e' ∈ canonicalTable lengths := List.mem_flatMap.2 ⟨k', hk', he'⟩
  obtain ⟨j, -, rfl⟩ := mem_codesOfLength.1 he
  obtain ⟨j', -, rfl⟩ := mem_codesOfLength.1 he'
  exact endsBefore_of_len_lt hmem hmem' (Nat.succ_lt_succ hlt)

/-- Where the symbols do not take too many codes, no code of the canonical table begins another, and
each fits its length. -/
theorem canonicalTable_wf (h : codeEnd lengths 15 ≤ 2 ^ 15) : tableWf (canonicalTable lengths) := by
  refine ⟨fun e he => ?_, (canonicalTable_pairwise_endsBefore lengths).imp not_codeBegins_of_endsBefore⟩
  obtain ⟨hpos, hle, -, -⟩ := mem_canonicalTable.1 he
  refine ⟨hpos, hle, (code_lt_codeEnd he).trans_le ?_⟩
  have hmul := codeEnd_mul_le lengths e.len (15 - e.len)
  rw [Nat.add_sub_cancel' hle] at hmul
  refine Nat.le_of_mul_le_mul_right ?_ (Nat.two_pow_pos (15 - e.len))
  rw [← Nat.pow_add, Nat.add_sub_cancel' hle]
  exact hmul.trans h

theorem canonicalTable_of_maxLen_eq_zero (h : maxLen lengths = 0) : canonicalTable lengths = [] := by
  refine List.eq_nil_iff_forall_not_mem.2 fun e he => ?_
  have hlt := code_lt_codeEnd he
  rw [codeEnd_of_maxLen_eq_zero h] at hlt
  omega

/-- What BuildCode accepts fits, and its table is the canonical one. -/
theorem buildCode_ok (h : buildCode kind lengths = .ok t) :
    t = canonicalTable lengths ∧ codeEnd lengths 15 ≤ 2 ^ 15 := by
  by_cases hfits : codeEnd lengths 15 ≤ 2 ^ 15
  · refine ⟨?_, hfits⟩
    rw [buildCode_of_fits hfits] at h
    split at h
    case isTrue hmax =>
      rw [canonicalTable_of_maxLen_eq_zero hmax]
      split at h <;> cases h
      rfl
    case isFalse => split at h <;> cases h; rfl
  · rw [buildCode_of_oversubscribed (by omega)] at h
    cases h

end Sys2Proof.Machine

open Sys2Proof Sys2Proof.Machine

/-- Settles O42: the sum of the statement is `codeEnd lengths 15`, the number of codes of 15 bits in use, and the
entries of the table, shorter codes first, each end before the next begins (`canonicalTable_pairwise_endsBefore`). -/
theorem buildCodeGivesAPrefixCode : Obligations.BuildCodeGivesAPrefixCode := by
  unfold Obligations.BuildCodeGivesAPrefixCode
  refine ⟨fun kind lengths sum hle hsum => ?_, fun kind lengths t hle hok => ?_⟩
  · have hend : sum = codeEnd lengths 15 := by
      rw [hsum, codeEnd_eq_sum_share]
      refine congrArg List.sum (List.map_congr_left fun l hl => ?_)
      have := hle l hl
      rw [share]
      exact if_congr (by omega) rfl rfl
    subst hend
    simp only [← lt_maxLen_iff]
    exact ⟨buildCode_of_oversubscribed, buildCode_of_incomplete, buildCode_of_accepted⟩
  · obtain ⟨rfl, hfits⟩ := buildCode_ok hok
    refine ⟨canonicalTable_wf hfits, fun e he => ?_, fun sym l hsym hpos => ?_, fun e he => ?_⟩
    · obtain ⟨-, -, hsym, -⟩ := mem_canonicalTable.1 he
      exact hsym
    · have hmem : (⟨l, firstCode lengths l + (lengths.take sym).count l, sym⟩ : HuffEntry) ∈ canonicalTable lengths :=
        mem_canonicalTable.2 ⟨hpos, hle l (List.mem_of_getElem? hsym), hsym, rfl⟩
      exact ⟨_, hmem, rfl, rfl⟩
    · obtain ⟨-, -, -, hcode⟩ := mem_canonicalTable.1 he
      rw [hcode, firstCode_eq_sum]

end

section
/-! The inflate engine (R194 to R206): headers, stored blocks, the two codes of a dynamic block, symbols and matches,
and the checksum. -/

namespace Sys2Proof.Machine

open Sys2Proof

variable {s : State}

/-! ## What a change of the codec alone leaves -/

theorem onlyCodec_setEng (e : Engine) (s : State) : onlyCodec s { s with eng := e } := onlyCodec_setCodec s.phase e s

theorem onlyCodec_goto (p : Phase) (s : State) : onlyCodec s (goto p s) := onlyCodec_setCodec p s.eng s

/-- The end of a run looks at its output and at the ladder, and at no other register of the codec (R192). -/
theorem runEnd_setEng (st : IStatus) {e : Engine} (hout : e.out = s.eng.out) (hladder : e.ladder = s.eng.ladder) :
    runEnd st { s with eng := e } = runEnd st s := by
  obtain ⟨src, bytePos, bitPos, out, hi, acc, ngrp, lzw, inflate, ladder, pred, fax⟩ := e
  cases hout
  cases hladder
  rfl

theorem runEnd_setInflate (st : IStatus) (f : InflateRegs → InflateRegs) (s : State) :
    runEnd st (setInflate f s) = runEnd st s := runEnd_setEng st rfl rfl

/-! ## The zlib header (R195) -/

theorem low_nibble_eq_eight_iff (c : Byte) : c &&& 0x0F = 8 ↔ c.toNat % 16 = 8 := by
  revert c
  decide

theorem toNat_high_nibble (c : Byte) : (c >>> 4).toNat = c.toNat / 16 := by
  rw [BitVec.toNat_ushiftRight, Nat.shiftRight_eq_div_pow]

theorem exec_zlibHdr_of_error {cmf flg : Byte} {e : IStatus} (h : zlibHeaderError cmf flg = some e) (s : State) :
    exec (.zlibHdr cmf flg) s = .next (runEnd e s) := by
  show execZlibHdr cmf flg s = _
  rw [execZlibHdr, h]

theorem exec_zlibHdr_of_ok {cmf flg : Byte} (h : zlibHeaderError cmf flg = none) (s : State) :
    exec (.zlibHdr cmf flg) s = .next (goto .block s) := by
  show execZlibHdr cmf flg s = _
  rw [execZlibHdr, h]

/-! ## The end of a block (R198) -/

theorem exec_eob (s : State) : exec .eob s = .next (blockEnd s) := rfl

theorem blockEnd_of_not_final (h : s.eng.inflate.bfinal = false) : blockEnd s = goto .block s := by
  rw [blockEnd, h, if_neg Bool.false_ne_true]

theorem blockEnd_of_zlibFinal (hfinal : s.eng.inflate.bfinal = true) (hzlib : s.eng.inflate.zlib = true) :
    blockEnd s = goto .zlibTrailer (alignBits s) := by
  rw [blockEnd, if_pos hfinal, if_pos hzlib]

theorem blockEnd_of_rawFinal (hfinal : s.eng.inflate.bfinal = true) (hraw : s.eng.inflate.zlib = false) :
    blockEnd s = runEnd .ok s := by
  rw [blockEnd, if_pos hfinal, hraw, if_neg Bool.false_ne_true]

/-! ## Stored blocks (R199) -/

/-- NLEN is the complement of LEN where the two add up to 65535. -/
theorem eq_complement_iff {len nlen : Nat} (h : nlen < 65536) : len = nlen ^^^ 0xFFFF ↔ len + nlen = 65535 := by
  have hxor : nlen ^^^ 0xFFFF = 65535 - nlen := by
    have hnot := congrArg BitVec.toNat (BitVec.xor_allOnes (x := BitVec.ofNat 16 nlen))
    rw [BitVec.toNat_xor, BitVec.toNat_not, BitVec.toNat_ofNat, Nat.mod_eq_of_lt h] at hnot
    exact hnot
  omega

/-- The state after a stored block that gave the bytes `bs`, its LEN standing at byte `p`. -/
def afterStored (final : Bool) (p : Nat) (bs : Bytes) (s : State) : State :=
  { s with eng := { s.eng with
      out := s.eng.out ++ bs
      bitPos := 8 * (p + 4 + bs.length)
      inflate := { s.eng.inflate with bfinal := final } } }

section Stored

variable {final : Bool} {p n : Nat} {l0 l1 n0 n1 : Byte} {data : Bytes}

theorem storedBlock_of_short (h : (s.eng.src.drop (s.eng.bitPos / 8)).length < 4) :
    storedBlock s = runEnd .eof s := by
  rw [storedBlock]
  split
  next hsrc => exact absurd h (by simp [hsrc])
  · rfl

theorem storedBlock_of_badLen (hsrc : s.eng.src.drop (s.eng.bitPos / 8) = l0 :: l1 :: n0 :: n1 :: data)
    (hlen : l0.toNat + 256 * l1.toNat + (n0.toNat + 256 * n1.toNat) ≠ 65535) :
    storedBlock s = runEnd .storedLen s := by
  rw [storedBlock, hsrc]
  exact if_pos (mt (eq_complement_iff (by omega)).1 hlen)

/-- The aligned cursor stands at the next byte (R67). -/
theorem alignBits_bitPos_div (s : State) : (alignBits s).eng.bitPos / 8 = (s.eng.bitPos + 7) / 8 :=
  Nat.mul_div_cancel_left _ (by decide)

theorem exec_blkStored (final : Bool) (s : State) :
    exec (.blkStored final) s = .next (storedBlock (alignBits (setFinal final s))) := rfl

/-- With the right NLEN and within the capacity the block is its data, or what is there of it before the input ends, and
then an end. -/
theorem exec_blkStored_of_goodLen (hp : p = (s.eng.bitPos + 7) / 8)
    (hsrc : s.eng.src.drop p = l0 :: l1 :: n0 :: n1 :: data)
    (hn : n = l0.toNat + 256 * l1.toNat) (hlen : n + (n0.toNat + 256 * n1.toNat) = 65535)
    (hcap : overCap s.cfg (s.eng.out ++ data.take n).length = false) :
    exec (.blkStored final) s = .next (
      if data.length < n then runEnd .eof (afterStored final p (data.take n) s)
      else blockEnd (afterStored final p (data.take n) s)) := by
  subst hp hn
  have hdrop : (alignBits (setFinal final s)).eng.src.drop ((alignBits (setFinal final s)).eng.bitPos / 8) =
      l0 :: l1 :: n0 :: n1 :: data := by rwa [alignBits_bitPos_div]
  have hpos (k : Nat) : 8 * ((s.eng.bitPos + 7) / 8) + 32 + 8 * k = 8 * ((s.eng.bitPos + 7) / 8 + 4 + k) := by omega
  rw [exec_blkStored, storedBlock, hdrop]
  refine congrArg Host.Outcome.next ((if_neg (not_not_intro ((eq_complement_iff (by omega)).2 hlen))).trans ?_)
  rw [storedData]
  refine (emit_of_fits ?_).trans ?_
  · exact hcap
  · simp only [appendOut, alignBits, setFinal, setInflate, afterStored, hpos]

/-- A block that was copied ends at a byte boundary. -/
theorem alignBits_afterStored (final : Bool) (p : Nat) (bs : Bytes) (s : State) :
    alignBits (afterStored final p bs s) = afterStored final p bs s := by
  have hpos (k : Nat) : 8 * ((8 * k + 7) / 8) = 8 * k := by omega
  simp only [alignBits, afterStored, hpos]

end Stored

/-! ## The header of a dynamic block (R201) -/

theorem readTriples_flatMap {triples : List Nat} (h : ∀ x ∈ triples, x < 8) (rest : List Bool) :
    readTriples triples.length (triples.flatMap (bitsL 3) ++ rest) = some triples := by
  induction triples with
  | nil => rfl
  | cons x triples ih =>
    have hx : x < 2 ^ 3 := h x (by simp)
    rw [List.flatMap_cons, List.append_assoc, List.length_cons, readTriples, fieldL_of_lt hx]
    simp only [drop_bitsL, ih fun y hy => h y (List.mem_cons_of_mem x hy), Option.map_some]

theorem readTriples_of_short {n : Nat} {bs : List Bool} (h : bs.length < 3 * n) : readTriples n bs = none := by
  induction n generalizing bs with
  | zero => omega
  | succ n ih =>
    rw [readTriples]
    split
    · rfl
    next v hv =>
      have hthree := (fieldL_some 3 v bs hv).1
      rw [ih (by rw [List.length_drop]; omega), Option.map_none]

/-- In a list of pairs whose first components differ, looking up a first component finds its second. -/
theorem find?_zip_fst {order values : List Nat} (hnodup : order.Nodup) {k sym : Nat} (hk : order[k]? = some sym) :
    (((order.zip values).find? fun p => p.1 == sym).map (·.2)).getD 0 = values.getD k 0 := by
  induction order generalizing values k with
  | nil => simp at hk
  | cons x order ih =>
    obtain ⟨hx, hnodup⟩ := List.nodup_cons.1 hnodup
    cases values with
    | nil => simp
    | cons v values =>
      cases k with
      | zero =>
        obtain rfl : x = sym := by simpa using hk
        simp
      | succ k =>
        have hmem : sym ∈ order := List.mem_of_getElem? hk
        have hne : x ≠ sym := fun h => hx (h ▸ hmem)
        simpa [hne] using ih hnodup hk

/-- Each code-length symbol has the length sent at its place in ORDER, or 0 (R201). -/
theorem eq_clLengths {triples lengths : List Nat} (hlen : lengths.length = 19)
    (h : ∀ k sym, clOrder[k]? = some sym → lengths[sym]? = some (triples.getD k 0)) : lengths = clLengths triples := by
  have hnodup : clOrder.Nodup := by decide
  have hall : ∀ sym < 19, sym ∈ clOrder := by decide
  refine List.ext_getElem (by simp [hlen, clLengths]) fun sym hsym _ => ?_
  obtain ⟨k, hk⟩ := List.mem_iff_getElem?.1 (hall sym (hlen ▸ hsym))
  have hval := h k sym hk
  rw [List.getElem?_eq_getElem hsym, Option.some.injEq, ← find?_zip_fst hnodup hk] at hval
  simpa [clLengths] using hval

section DynHdr

variable {hlit hdist : BitVec 5} {hclen : BitVec 4} {triples : List Nat}

theorem exec_dynHdr_of_tooMany (h : 286 < hlit.toNat + 257 ∨ 30 < hdist.toNat + 1) :
    exec (.dynHdr hlit hdist hclen) s = .next (runEnd .tooMany s) := congrArg Host.Outcome.next (if_pos h)

theorem exec_dynHdr_of_eof (hcount : ¬ (286 < hlit.toNat + 257 ∨ 30 < hdist.toNat + 1))
    (h : readTriples (hclen.toNat + 4) ((streamL s.eng.src).drop s.eng.bitPos) = none) :
    exec (.dynHdr hlit hdist hclen) s = .next (runEnd .eof s) := by
  show execDynHdr hlit hdist hclen s = _
  rw [execDynHdr, if_neg hcount, h]

theorem exec_dynHdr_of_error {e : IStatus} (hcount : ¬ (286 < hlit.toNat + 257 ∨ 30 < hdist.toNat + 1))
    (h : readTriples (hclen.toNat + 4) ((streamL s.eng.src).drop s.eng.bitPos) = some triples)
    (hcode : buildCode .cl (clLengths triples) = .error e) :
    exec (.dynHdr hlit hdist hclen) s = .next (runEnd e s) := by
  show execDynHdr hlit hdist hclen s = _
  simp only [execDynHdr, if_neg hcount, h, hcode]

theorem exec_dynHdr_of_ok {clt : HuffTable} (hcount : ¬ (286 < hlit.toNat + 257 ∨ 30 < hdist.toNat + 1))
    (h : readTriples (hclen.toNat + 4) ((streamL s.eng.src).drop s.eng.bitPos) = some triples)
    (hcode : buildCode .cl (clLengths triples) = .ok clt) :
    exec (.dynHdr hlit hdist hclen) s = .next { s with
      phase := .clSym
      eng := { s.eng with
        bitPos := s.eng.bitPos + 3 * (hclen.toNat + 4)
        inflate := { s.eng.inflate with
          hlit := hlit.toNat + 257, hdist := hdist.toNat + 1, clt := clt, lens := [] } } } := by
  show execDynHdr hlit hdist hclen s = _
  simp only [execDynHdr, if_neg hcount, h, hcode]
  rfl

end DynHdr

/-! ## Code-length symbols (R201) -/

section CodeLengths

variable {v n : Nat}

theorem exec_clCopy_of_noPrevious (x : BitVec 2) (h : s.eng.inflate.lens = []) :
    exec (.clCopy x) s = .next (runEnd .badRepeat s) := by
  show execClCopy x s = _
  rw [execClCopy, h, List.getLast?_nil]

theorem exec_of_repeatOf {i : Instr} (h : repeatOf s.eng.inflate.lens i = some (v, n)) :
    exec i s = .next (addLengths v n s) := by
  unfold repeatOf at h
  split at h
  case h_2 x =>
    obtain ⟨w, hw, hwv⟩ := Option.map_eq_some_iff.1 h
    cases hwv
    show execClCopy x s = _
    rw [execClCopy, hw]
  case h_5 => cases h
  all_goals cases h; rfl

/-- The code lengths read so far are `lens`. -/
def withLens (lens : List Nat) (s : State) : State := setInflate (fun r => { r with lens := lens }) s

theorem addLengths_of_lt (h : s.eng.inflate.lens.length + n < s.eng.inflate.hlit + s.eng.inflate.hdist) :
    addLengths v n s = goto .clSym (withLens (s.eng.inflate.lens ++ List.replicate n v) s) := by
  rw [addLengths, if_neg (by omega)]
  exact if_neg (Nat.ne_of_lt h)

theorem addLengths_of_eq {lens : List Nat} (hlens : lens = s.eng.inflate.lens ++ List.replicate n v)
    (h : lens.length = s.eng.inflate.hlit + s.eng.inflate.hdist) :
    addLengths v n s = tablesReady (withLens lens s) := by
  subst hlens
  rw [List.length_append, List.length_replicate] at h
  rw [addLengths, if_neg (by omega)]
  exact if_pos h

theorem addLengths_of_gt (h : s.eng.inflate.hlit + s.eng.inflate.hdist < s.eng.inflate.lens.length + n) :
    addLengths v n s = runEnd .badRepeat s := if_pos h

theorem tablesReady_of_noEob (h : s.eng.inflate.lens.getD 256 0 = 0) : tablesReady s = runEnd .noEob s := if_pos h

theorem tablesReady_of_llError {e : IStatus} (heob : s.eng.inflate.lens.getD 256 0 ≠ 0)
    (hll : buildCode .ll (s.eng.inflate.lens.take s.eng.inflate.hlit) = .error e) : tablesReady s = runEnd e s := by
  rw [tablesReady, if_neg heob, hll]

theorem tablesReady_of_dError {e : IStatus} {ll : HuffTable} (heob : s.eng.inflate.lens.getD 256 0 ≠ 0)
    (hll : buildCode .ll (s.eng.inflate.lens.take s.eng.inflate.hlit) = .ok ll)
    (hdd : buildCode .d (s.eng.inflate.lens.drop s.eng.inflate.hlit) = .error e) : tablesReady s = runEnd e s := by
  simp only [tablesReady, if_neg heob, hll, hdd]

theorem tablesReady_of_ok {ll dd : HuffTable} (heob : s.eng.inflate.lens.getD 256 0 ≠ 0)
    (hll : buildCode .ll (s.eng.inflate.lens.take s.eng.inflate.hlit) = .ok ll)
    (hdd : buildCode .d (s.eng.inflate.lens.drop s.eng.inflate.hlit) = .ok dd) :
    tablesReady s = goto .llSym (setInflate (fun r => { r with ll := ll, dd := dd }) s) := by
  simp only [tablesReady, if_neg heob, hll, hdd]

end CodeLengths

/-! ## Matches (R203, R204) -/

theorem exec_of_lengthOf {i : Instr} {n : Nat} (h : lengthOf i = some n) (s : State) :
    exec i s = .next (matchLength n s) := by
  unfold lengthOf at h
  split at h
  all_goals cases h
  all_goals rfl

/-- The table of R203 with every value of the extra bits. -/
theorem lengthOf_bounds {i : Instr} {n : Nat} (h : lengthOf i = some n) : 3 ≤ n ∧ n ≤ 258 := by
  unfold lengthOf at h
  split at h
  all_goals cases h
  all_goals omega

theorem exec_of_distanceOf {i : Instr} {d : Nat} (h : distanceOf i = some d) (s : State) :
    exec i s = .next (matchDistance d s) := by
  unfold distanceOf at h
  split at h
  all_goals cases h
  all_goals rfl

/-- The table of R203 with every value of the extra bits. -/
theorem distanceOf_bounds {i : Instr} {d : Nat} (h : distanceOf i = some d) : 1 ≤ d ∧ d ≤ 32768 := by
  unfold distanceOf at h
  split at h
  all_goals cases h
  all_goals omega

theorem matchDistance_of_far {d : Nat} (h : s.eng.out.length < d) : matchDistance d s = runEnd .dist s := if_pos h

theorem matchDistance_of_fits {d : Nat} (hd : d ≤ s.eng.out.length)
    (hcap : overCap s.cfg (s.eng.out.length + s.eng.inflate.matchLen) = false) :
    matchDistance d s =
      goto .llSym { s with eng := { s.eng with out := copyMatch d s.eng.inflate.matchLen s.eng.out } } := by
  rw [matchDistance, if_neg (Nat.not_lt.2 hd), hcap, if_neg Bool.false_ne_true]

/-- A match is copied byte by byte: what one byte appends is there for the next (R204). -/
theorem copyMatch_succ (d n : Nat) (o : Bytes) :
    copyMatch d (n + 1) o = copyMatch d n (o ++ [o.reverse.getD (d - 1) 0]) := by
  simp [copyMatch, copyRev]

/-- The byte `d` places before the end. -/
theorem getD_reverse_eq {d : Nat} {o : Bytes} (hpos : 1 ≤ d) (hd : d ≤ o.length) :
    some (o.reverse.getD (d - 1) 0) = o[o.length - d]? := by
  have hplace : o.length - 1 - (d - 1) = o.length - d := by omega
  rw [List.getD_eq_getElem?_getD, List.getElem?_reverse (by omega), hplace, List.getElem?_eq_getElem (by omega)]
  rfl

theorem copyMatch_eq_append {d : Nat} (hpos : 1 ≤ d) (n : Nat) {o : Bytes} (hd : d ≤ o.length) :
    ∃ copied : Bytes, copyMatch d n o = o ++ copied ∧ copied.length = n ∧
      ∀ k < n, (o ++ copied)[o.length + k]? = (o ++ copied)[o.length + k - d]? := by
  induction n generalizing o with
  | zero => exact ⟨[], by simp [copyMatch, copyRev], rfl, nofun⟩
  | succ n ih =>
    have hbyte := getD_reverse_eq hpos hd
    generalize hb : o.reverse.getD (d - 1) 0 = b at hbyte
    obtain ⟨copied, hcopy, hlen, hback⟩ := ih (o := o ++ [b]) (by rw [List.length_append]; omega)
    rw [List.append_assoc] at hcopy hback
    refine ⟨b :: copied, by rw [copyMatch_succ, hb, hcopy]; rfl, by rw [List.length_cons, hlen], fun k hk => ?_⟩
    cases k with
    | zero =>
      rw [Nat.add_zero, List.getElem?_append_left (by omega : o.length - d < o.length), ← hbyte]
      simp
    | succ k =>
      have hk' := hback k (by omega)
      rw [List.length_append, List.length_singleton, Nat.add_right_comm] at hk'
      exact hk'

/-! ## Adler-32 (R205) -/

/-- One byte of Adler-32. -/
def adlerStep (p : Nat × Nat) (x : Byte) : Nat × Nat :=
  ((p.1 + x.toNat) % 65521, (p.2 + (p.1 + x.toNat) % 65521) % 65521)

theorem adler32_eq (o : Bytes) :
    adler32 o = (o.foldl adlerStep (1, 0)).2 * 65536 + (o.foldl adlerStep (1, 0)).1 := rfl

/-- The bytes of a sequence, each as many times as there are bytes from it on. -/
def weightedSum (o : Bytes) : Nat := ((List.range o.length).map fun k => (o.length - k) * (o.getD k 0).toNat).sum

theorem weightedSum_cons (x : Byte) (o : Bytes) :
    weightedSum (x :: o) = (o.length + 1) * x.toNat + weightedSum o := by
  simp [weightedSum, List.range_succ_eq_map, Function.comp_def]

theorem weightedSum_append_singleton (o : Bytes) (x : Byte) :
    weightedSum (o ++ [x]) = weightedSum o + ((o ++ [x]).map BitVec.toNat).sum := by
  induction o with
  | nil => simp [weightedSum]
  | cons y o ih =>
    rw [List.cons_append, weightedSum_cons, weightedSum_cons, ih, List.map_cons, List.sum_cons, List.length_append,
      List.length_singleton]
    ring

/-- The two sums, each taken modulo 65521 at every byte, are the whole sums modulo 65521. -/
theorem foldl_adlerStep (o : Bytes) : o.foldl adlerStep (1, 0) =
    ((1 + (o.map BitVec.toNat).sum) % 65521, (o.length + weightedSum o) % 65521) := by
  induction o using List.reverseRecOn with
  | nil => rfl
  | append_singleton o x ih =>
    rw [List.foldl_append, ih, List.foldl_cons, List.foldl_nil, adlerStep, weightedSum_append_singleton]
    simp only [List.map_append, List.sum_append, List.map_cons, List.map_nil, List.sum_singleton, List.length_append,
      List.length_singleton, Prod.mk.injEq]
    constructor <;> omega

end Sys2Proof.Machine

open Sys2Proof Sys2Proof.Machine

/-- Settles O33: the checks of `zlibHeaderError`, in their order. -/
theorem zlibHeaderChecksInOrder : Obligations.ZlibHeaderChecksInOrder := by
  unfold Obligations.ZlibHeaderChecksInOrder
  intro cmf flg s check method window noDict
  have hmethod : method ↔ cmf.toNat % 16 = 8 := low_nibble_eq_eight_iff cmf
  have hwindow : window ↔ cmf.toNat / 16 ≤ 7 := by rw [← toNat_high_nibble]
  rw [hmethod, hwindow]
  refine ⟨fun hc hm hw hd => ⟨goto .block s, exec_zlibHdr_of_ok ?_ s, onlyCodec_goto .block s, rfl, rfl⟩,
    fun hc => exec_zlibHdr_of_error (if_pos hc) s, fun hc hm => exec_zlibHdr_of_error ?_ s,
    fun hc hm hw => exec_zlibHdr_of_error ?_ s, fun hc hm hw hd => exec_zlibHdr_of_error ?_ s⟩
  all_goals rw [zlibHeaderError, if_neg (not_not_intro hc)]
  · rw [if_neg (not_not_intro hm), if_neg (Nat.not_lt.2 hw)]
    exact if_neg (ne_true_of_eq_false hd)
  · exact if_pos hm
  · rw [if_neg (not_not_intro hm), if_pos (Nat.lt_of_not_le hw)]
  · rw [if_neg (not_not_intro hm), if_neg (Nat.not_lt.2 hw)]
    exact if_pos (eq_true_of_ne_false hd)

/-- Settles O34: each header is one change of the inflate registers. -/
theorem blockHeadersSelectTheirBody : Obligations.BlockHeadersSelectTheirBody := by
  unfold Obligations.BlockHeadersSelectTheirBody
  intro final s
  exact ⟨⟨_, rfl, onlyCodec_setCodec _ _ s, rfl, rfl⟩, ⟨_, rfl, onlyCodec_setCodec _ _ s, rfl, rfl⟩⟩

/-- Settles O35: with the right NLEN the block is its data and then an end, by the bytes that are there. -/
theorem storedBlockCopiesItsBytes : Obligations.StoredBlockCopiesItsBytes := by
  unfold Obligations.StoredBlockCopiesItsBytes
  intro final s p hp
  have hpos : (alignBits (setFinal final s)).eng.bitPos / 8 = p := hp ▸ alignBits_bitPos_div _
  refine ⟨fun l0 l1 n0 n1 data n hsrc hn => ?_, fun hshort => ?_⟩
  · have hgood := exec_blkStored_of_goodLen (final := final) hp hsrc hn
    refine ⟨fun hlen hle hcap hnext => ?_, fun hlen hle hcap hfinal hraw => ?_, fun hlen hlt hcap => ?_, fun hlen => ?_⟩
    · have htake : (data.take n).length = n := List.length_take_of_le hle
      rw [hgood hlen (by rwa [List.length_append, htake]), if_neg (Nat.not_lt.2 hle)]
      cases final with
      | false =>
        rw [blockEnd_of_not_final (s := afterStored false p (data.take n) s) rfl]
        exact ⟨_, rfl, onlyCodec_setCodec _ _ s, rfl, by simp only [goto_eng, afterStored, htake]⟩
      | true =>
        rw [blockEnd_of_zlibFinal (s := afterStored true p (data.take n) s) rfl (hnext.resolve_left nofun),
          alignBits_afterStored]
        exact ⟨_, rfl, onlyCodec_setCodec _ _ s, rfl, by simp only [goto_eng, afterStored, htake]⟩
    · have htake : (data.take n).length = n := List.length_take_of_le hle
      subst hfinal
      rw [hgood hlen (by rwa [List.length_append, htake]), if_neg (Nat.not_lt.2 hle),
        blockEnd_of_rawFinal (s := afterStored true p (data.take n) s) rfl hraw, afterStored, htake]
    · have htake : data.take n = data := List.take_of_length_le hlt.le
      rw [htake] at hgood
      rw [hgood hlen (by rwa [List.length_append]), if_pos hlt, afterStored]
    · rw [exec_blkStored, storedBlock_of_badLen (s := alignBits (setFinal final s)) (hpos.symm ▸ hsrc) (hn ▸ hlen)]
  · rw [exec_blkStored, storedBlock_of_short (s := alignBits (setFinal final s)) (hpos.symm ▸ hshort)]

/-- Settles O36: the lengths of the statement are `clLengths` of the triples, which `readTriples` reads. -/
theorem dynamicHeaderBuildsTheLengthCode : Obligations.DynamicHeaderBuildsTheLengthCode := by
  unfold Obligations.DynamicHeaderBuildsTheLengthCode
  intro hlit hdist hclen s
  refine ⟨fun hl hd triples lengths hcount hlt hbits hlen horder => ?_, fun hl hd hshort => ?_, exec_dynHdr_of_tooMany⟩
  · have hfew : ¬ (286 < hlit.toNat + 257 ∨ 30 < hdist.toNat + 1) := by omega
    obtain ⟨rest, hbits⟩ := hbits
    have hread : readTriples (hclen.toNat + 4) ((streamL s.eng.src).drop s.eng.bitPos) = some triples := by
      rw [hbits, ← hcount, readTriples_flatMap hlt]
    obtain rfl := eq_clLengths hlen horder
    exact ⟨fun clt hcode => ⟨_, exec_dynHdr_of_ok hfew hread hcode, onlyCodec_setCodec _ _ s, rfl, rfl⟩,
      fun e hcode => exec_dynHdr_of_error hfew hread hcode⟩
  · exact exec_dynHdr_of_eof (by omega) (readTriples_of_short hshort)

/-- Settles O37: every code-length symbol is `addLengths` of what it stands for, by how many lengths there are then. -/
theorem codeLengthSymbolsAppend : Obligations.CodeLengthSymbolsAppend := by
  unfold Obligations.CodeLengthSymbolsAppend
  refine ⟨fun x s h => exec_clCopy_of_noPrevious x h, fun i s v n total hi htotal => ?_⟩
  subst htotal
  rw [exec_of_repeatOf hi]
  refine ⟨fun hlt => ?_, fun ll dd lens hlens hlen heob hll hdd => ?_, fun lens hlens hlen => ⟨fun heob => ?_,
    fun e heob hll => ?_, fun e ll heob hll hdd => ?_⟩, fun hgt => by rw [addLengths_of_gt hgt]⟩
  · rw [addLengths_of_lt hlt]
    exact ⟨_, rfl, onlyCodec_setCodec _ _ s, rfl, rfl⟩
  · rw [addLengths_of_eq hlens hlen, tablesReady_of_ok (s := withLens lens s) heob hll hdd]
    exact ⟨_, rfl, onlyCodec_setCodec _ _ s, rfl, rfl⟩
  · rw [addLengths_of_eq hlens hlen, tablesReady_of_noEob (s := withLens lens s) heob, withLens, runEnd_setInflate]
  · rw [addLengths_of_eq hlens hlen, tablesReady_of_llError (s := withLens lens s) heob hll, withLens,
      runEnd_setInflate]
  · rw [addLengths_of_eq hlens hlen, tablesReady_of_dError (s := withLens lens s) heob hll hdd, withLens,
      runEnd_setInflate]

/-- Settles O38: LIT is an `emit` that fits, EOB is `blockEnd`. -/
theorem literalsAndBlockEnds : Obligations.LiteralsAndBlockEnds := by
  unfold Obligations.LiteralsAndBlockEnds
  refine ⟨fun b s hcap => ?_, fun s hnot => ?_, fun s hfinal hzlib => ?_⟩
  · have hexec : exec (.lit b) s = .next (goto .llSym (appendOut [b] s)) :=
      congrArg Host.Outcome.next (emit_of_fits (by rwa [List.length_append]))
    exact ⟨_, hexec, onlyCodec_setCodec _ _ s, rfl, rfl⟩
  · rw [exec_eob, blockEnd_of_not_final hnot]
    exact ⟨_, rfl, onlyCodec_goto _ s, rfl, rfl⟩
  · rw [exec_eob, blockEnd_of_zlibFinal hfinal hzlib]
    exact ⟨_, (s.eng.bitPos + 7) / 8, rfl, onlyCodec_setCodec _ _ s, rfl, rfl, by omega, by omega⟩

/-- Settles O39: every length symbol is `matchLength` of its length. -/
theorem lengthSymbolsGiveTheirLength : Obligations.LengthSymbolsGiveTheirLength := by
  unfold Obligations.LengthSymbolsGiveTheirLength
  intro i n s h
  obtain ⟨hlo, hhi⟩ := lengthOf_bounds h
  exact ⟨hlo, hhi, _, exec_of_lengthOf h s, onlyCodec_setCodec _ _ s, rfl, rfl⟩

/-- Settles O40: every distance symbol is `matchDistance` of its distance, and the copy is made byte by byte
(`copyMatch_eq_append`). -/
theorem distanceSymbolsCopyTheirMatch : Obligations.DistanceSymbolsCopyTheirMatch := by
  unfold Obligations.DistanceSymbolsCopyTheirMatch
  intro i d s h
  obtain ⟨hpos, hle⟩ := distanceOf_bounds h
  rw [exec_of_distanceOf h]
  refine ⟨hpos, hle, fun hd hcap => ?_, fun hfar => by rw [matchDistance_of_far hfar]⟩
  obtain ⟨copied, hcopy, hlen, hback⟩ := copyMatch_eq_append hpos s.eng.inflate.matchLen hd
  rw [matchDistance_of_fits hd hcap, hcopy]
  exact ⟨_, copied, rfl, onlyCodec_setCodec _ _ s, rfl, rfl, hlen, hback⟩

/-- Settles O41: the two registers are the whole sums modulo 65521 (`foldl_adlerStep`), which fit their 16 bits. -/
theorem adlerIsTheTwoSums : Obligations.AdlerIsTheTwoSums := by
  unfold Obligations.AdlerIsTheTwoSums
  intro o
  rw [adler32_eq, foldl_adlerStep, ← weightedSum]
  constructor <;> omega

end

section
/-! LZW (43_lzw.md): the width of the next code, the string a data code stands for, the growth of the table, what a step
of a run can do, and the invariants of the registers between two codes. -/

namespace Sys2Proof.Machine

open Sys2Proof

variable {s t : State} {r : LzwRegs} {str : Bytes} {maxBits : Nat}

/-! ## The next code (R255) -/

/-- Only CODE_BITS changes before a code is read. -/
theorem widenCode_eq (maxBits : Nat) (r : LzwRegs) :
    widenCode maxBits r = { r with codeBits := (widenCode maxBits r).codeBits } := by
  rw [codeBits_widenCode, widenCode]
  split <;> rfl

/-- The width of the next code of an LZW run. -/
def nextWidth (s : State) : Nat := (widenCode s.cfg.lzwMaxBits s.eng.lzw).codeBits

/-- The run of `s` once the next code is read: BITPOS is past it, and CODE_BITS is its width. -/
def afterCode (s : State) : State :=
  { s with
    eng := { s.eng with
      bitPos := s.eng.bitPos + nextWidth s, lzw := { s.eng.lzw with codeBits := nextWidth s } } }

theorem afterCode_lzw (s : State) : (afterCode s).eng.lzw = widenCode s.cfg.lzwMaxBits s.eng.lzw :=
  (widenCode_eq s.cfg.lzwMaxBits s.eng.lzw).symm

/-- In an LZW run the width is chosen before a code is read. -/
theorem prepare_of_lzw (hp : s.phase = .lzw) :
    prepare s = { s with eng := { s.eng with lzw := widenCode s.cfg.lzwMaxBits s.eng.lzw } } := if_pos hp

theorem want_of_lzw (hp : s.phase = .lzw) :
    want (prepare s) = .code (.lzwCode (nextWidth s) s.eng.lzw.nextCode s.eng.lzw.prev.isSome) (restM s) := by
  rw [prepare_of_lzw hp, widenCode_eq]
  simp only [want, hp]
  rfl

theorem advance_prepare_of_lzw (hp : s.phase = .lzw) (next : Nat) (prev : Bool) :
    advance (.lzwCode (nextWidth s) next prev) (nextWidth s) (prepare s) = afterCode s := by
  rw [prepare_of_lzw hp, widenCode_eq]
  rfl

/-- A code is read where its bits are there, and is classified by NEXT_CODE and PREV (R99, R251). -/
theorem decode_lzwCode_eq_instr {width next used : Nat} {prev : Bool} {bs : List Bool} {i : Instr}
    (h : decode (.lzwCode width next prev) bs = .instr i used) :
    used = width ∧ ∃ c, i = decodeLzw next prev c := by
  simp only [decode] at h
  split at h <;> cases h
  exact ⟨rfl, _, rfl⟩

/-- A step of an LZW run executes the code it reads, or ends the run at the end of the data (R252, R259). -/
theorem blockStep_of_lzw (hp : s.phase = .lzw) :
    (∃ c, blockStep s = exec (decodeLzw s.eng.lzw.nextCode s.eng.lzw.prev.isSome c) (afterCode s)) ∨
      blockStep s = .next (finishStage 3 s.eng.out (prepare s)) := by
  obtain ⟨e, hw, -⟩ | ⟨f, bs, i, used, hw, hd, h⟩ | ⟨f, bs, rj, hw, -, h⟩ := blockStep_cases s <;>
    cases hw.symm.trans (want_of_lzw hp)
  · obtain ⟨rfl, c, rfl⟩ := decode_lzwCode_eq_instr hd
    exact .inl ⟨c, by rw [h, advance_prepare_of_lzw hp]⟩
  · refine .inr ?_
    rw [h, prepare_of_lzw hp]
    simp only [handleReject, hp]

/-! ## The strings of the data codes (R257) -/

/-- The string `str` is what `Resolve` can answer: a byte, an entry of the table, or, while the table grows, the
previous string with its first byte. -/
inductive Resolves (r : LzwRegs) : Bytes → Prop
  | literal (b : Byte) : Resolves r [b]
  | entry {k : Nat} {str : Bytes} (h : r.tab[k]? = some str) : Resolves r str
  | kwkwk {p : Bytes} (hp : r.prev = some p) (hlt : r.nextCode < 4096) : Resolves r (p ++ p.take 1)

theorem lzwString_resolves {c : Nat} (h : lzwString r c = some str) : Resolves r str := by
  unfold lzwString at h
  split at h
  · cases h
    exact .literal _
  · split at h
    · exact .entry h
    · cases h

/-- A code that is not below NEXT_CODE, or that no string is assigned to, has none (R257). -/
theorem lzwString_eq_none {c : Nat} (hc : 258 ≤ c) (h : r.nextCode ≤ c ∨ r.tab[c - 258]? = none) :
    lzwString r c = none := by
  rw [lzwString, if_neg (by omega)]
  split
  · exact h.resolve_left (by omega)
  · rfl

theorem exec_lzwRef_of_string {c : BitVec 16} (h : lzwString s.eng.lzw c.toNat = some str) :
    exec (.lzwRef c) s = .next (lzwData str s) := by
  show execLzwRef c s = _
  simp only [execLzwRef, h]

theorem exec_lzwRef_of_none {c : BitVec 16} (h : lzwString s.eng.lzw c.toNat = none) :
    exec (.lzwRef c) s = .next (lzwInvalid c.toNat s) := by
  show execLzwRef c s = _
  simp only [execLzwRef, h]

theorem exec_lzwKwkwk_of_prev {p : Bytes} (hp : s.eng.lzw.prev = some p) (hlt : s.eng.lzw.nextCode < 4096) :
    exec .lzwKwkwk s = .next (lzwData (p ++ p.take 1) s) := by
  show execLzwKwkwk s = _
  simp only [execLzwKwkwk, hp, if_pos hlt]

theorem exec_lzwKwkwk_of_fault (h : s.eng.lzw.prev = none ∨ 4096 ≤ s.eng.lzw.nextCode) :
    exec .lzwKwkwk s = .next (lzwInvalid s.eng.lzw.nextCode s) := by
  show execLzwKwkwk s = _
  rw [execLzwKwkwk]
  split
  next p hp =>
    have hfull : 4096 ≤ s.eng.lzw.nextCode := h.resolve_left (by simp [hp])
    rw [if_neg (by omega)]
  · rfl

/-! ## The growth of the table (R258) -/

/-- With a previous string and room in the table, the previous string is inserted with the first byte of this one. -/
theorem lzwInsert_of_room {p : Bytes} (hp : r.prev = some p) (hlt : r.nextCode < 4096) :
    lzwInsert str r =
      { r with tab := r.tab ++ [p ++ str.take 1], nextCode := r.nextCode + 1, prev := some str } := by
  simp only [lzwInsert, hp, if_pos hlt]

/-- Without one, or at a full table, nothing is inserted. -/
theorem lzwInsert_of_fixed (h : r.prev = none ∨ 4096 ≤ r.nextCode) :
    lzwInsert str r = { r with prev := some str } := by
  rw [lzwInsert]
  split
  · rfl
  next p hp =>
    have hfull : 4096 ≤ r.nextCode := h.resolve_left (by simp [hp])
    rw [if_neg (by omega)]

theorem room_or_fixed (r : LzwRegs) :
    (∃ p, r.prev = some p ∧ r.nextCode < 4096) ∨ (r.prev = none ∨ 4096 ≤ r.nextCode) := by
  cases r.prev with
  | none => exact .inr (.inl rfl)
  | some p => exact (Nat.lt_or_ge r.nextCode 4096).imp (fun h => ⟨p, rfl, h⟩) .inr

theorem lzwInsert_nextCode_bounds (str : Bytes) (r : LzwRegs) :
    r.nextCode ≤ (lzwInsert str r).nextCode ∧ (lzwInsert str r).nextCode ≤ r.nextCode + 1 := by
  obtain ⟨p, hp, hlt⟩ | h := room_or_fixed r
  · rw [lzwInsert_of_room hp hlt]
    exact ⟨Nat.le_succ _, Nat.le_refl _⟩
  · rw [lzwInsert_of_fixed h]
    exact ⟨Nat.le_refl _, Nat.le_succ _⟩

/-- The table grows by `entry`: the one string inserted, or none. -/
theorem lzwInsert_eq {entry : List Bytes} (hfixed : r.prev = none ∨ 4096 ≤ r.nextCode → entry = [])
    (hroom : ∀ p, r.prev = some p → r.nextCode < 4096 → entry = [p ++ str.take 1]) :
    lzwInsert str r =
      { r with tab := r.tab ++ entry, nextCode := r.nextCode + entry.length, prev := some str } := by
  obtain ⟨p, hp, hlt⟩ | h := room_or_fixed r
  · rw [hroom p hp hlt, lzwInsert_of_room hp hlt, List.length_singleton]
  · rw [hfixed h, lzwInsert_of_fixed h, List.append_nil, List.length_nil, Nat.add_zero]

/-- A string that fits the buffer is emitted, and the table grows (R252). -/
theorem lzwData_of_fits (hcap : overCap s.cfg (s.eng.out.length + str.length) = false) :
    lzwData str s = { s with eng := { s.eng with out := s.eng.out ++ str, lzw := lzwInsert str s.eng.lzw } } := by
  rw [← List.length_append] at hcap
  rw [lzwData, emit_of_fits hcap]
  rfl

/-! ## What a step of an LZW run can do -/

/-- The codec run is over: its registers are initial. -/
def codecOver (t : State) : Prop := t.phase = .orchestrate ∧ t.eng = Engine.empty

theorem codecOver_raise (c : Cause) (k : Nat) (s : State) : codecOver (raise c k s) := ⟨rfl, rfl⟩

theorem codecOver_finishStage (k : Nat) (o : Bytes) (s : State) : codecOver (finishStage k o s) := by
  obtain ⟨-, h⟩ | ⟨-, -, h⟩ | ⟨-, -, h⟩ := finishStage_cases k o s <;> rw [h] <;> exact ⟨rfl, rfl⟩

/-- What a code makes of the LZW run of `s` (R252): it emits a string and remembers it, clears the table, or ends the
run. -/
inductive LzwResult (s t : State) : Prop
  | emits (str : Bytes) (hres : Resolves s.eng.lzw str) (hout : t.eng.out = s.eng.out ++ str)
      (hlzw : t.eng.lzw = lzwInsert str s.eng.lzw)
  | clears (hout : t.eng.out = s.eng.out) (hlzw : t.eng.lzw = LzwRegs.init)
  | ends (h : codecOver t)

theorem lzwData_result (hres : Resolves s.eng.lzw str) : LzwResult s (lzwData str s) := by
  cases hcap : overCap s.cfg (s.eng.out.length + str.length) with
  | true =>
    rw [lzwData, emit, if_pos hcap]
    exact .ends (codecOver_raise _ 3 s)
  | false =>
    rw [lzwData_of_fits hcap]
    exact .emits str hres rfl rfl

theorem lzwInvalid_result (c : Nat) : LzwResult s (lzwInvalid c s) := .ends (codecOver_raise _ 3 s)

theorem exec_lzwRef_result (c : BitVec 16) (s : State) : ∃ t, exec (.lzwRef c) s = .next t ∧ LzwResult s t := by
  cases h : lzwString s.eng.lzw c.toNat with
  | none => exact ⟨_, exec_lzwRef_of_none h, lzwInvalid_result c.toNat⟩
  | some str => exact ⟨_, exec_lzwRef_of_string h, lzwData_result (lzwString_resolves h)⟩

theorem exec_lzwKwkwk_result (s : State) : ∃ t, exec .lzwKwkwk s = .next t ∧ LzwResult s t := by
  obtain ⟨p, hp, hlt⟩ | h := room_or_fixed s.eng.lzw
  · exact ⟨_, exec_lzwKwkwk_of_prev hp hlt, lzwData_result (.kwkwk hp hlt)⟩
  · exact ⟨_, exec_lzwKwkwk_of_fault h, lzwInvalid_result _⟩

/-- What a code does, whatever NEXT_CODE and PREV it was classified by. -/
theorem exec_decodeLzw_result (next : Nat) (prev : Bool) (c : Nat) (s : State) :
    ∃ t, exec (decodeLzw next prev c) s = .next t ∧ LzwResult s t := by
  unfold decodeLzw
  split
  · exact ⟨_, rfl, lzwData_result (.literal _)⟩
  split
  · exact ⟨_, rfl, .clears rfl rfl⟩
  split
  · exact ⟨_, rfl, .ends (codecOver_finishStage 3 _ _)⟩
  split
  · exact exec_lzwRef_result _ s
  split
  · exact exec_lzwKwkwk_result s
  · exact ⟨_, rfl, lzwInvalid_result _⟩

theorem lzw_result (hp : s.phase = .lzw) (h : blockStep s = .next t) : LzwResult (afterCode s) t := by
  obtain ⟨c, hstep⟩ | hstep := blockStep_of_lzw hp
  · obtain ⟨t', ht', hres⟩ := exec_decodeLzw_result s.eng.lzw.nextCode s.eng.lzw.prev.isSome c (afterCode s)
    cases h.symm.trans (hstep.trans ht')
    exact hres
  · cases h.symm.trans hstep
    exact .ends (codecOver_finishStage 3 _ _)

/-! ## The invariants between two codes (R261) -/

/-- The clauses of `lzwWf`, on the LZW registers alone. -/
structure LzwRegsWf (maxBits : Nat) (r : LzwRegs) : Prop where
  next_eq : r.nextCode = 258 + r.tab.length
  next_le : r.nextCode ≤ 4096
  bits_ge : 9 ≤ r.codeBits
  bits_le : r.codeBits ≤ maxBits
  readable : r.nextCode < 2 ^ r.codeBits ∨ 12 ≤ r.codeBits
  two_le : ∀ x ∈ r.tab, 2 ≤ x.length
  prev_ne : ∀ p, r.prev = some p → p ≠ []
  entry_le : ∀ k x, r.tab[k]? = some x → x.length ≤ k + 2
  prev_le : ∀ p, r.prev = some p → p.length + 257 ≤ r.nextCode
  tab_nil : r.prev = none → r.tab = []

theorem lzwWf_iff (s : State) : lzwWf s ↔ LzwRegsWf s.cfg.lzwMaxBits s.eng.lzw :=
  ⟨fun ⟨h1, h2, h3, h4, h5, h6, h7, h8, h9, h10⟩ => ⟨h1, h2, h3, h4, h5, h6, h7, h8, h9, h10⟩,
    fun h => ⟨h.next_eq, h.next_le, h.bits_ge, h.bits_le, h.readable, h.two_le, h.prev_ne, h.entry_le, h.prev_le,
      h.tab_nil⟩⟩

theorem LzwRegsWf.init (h : 9 ≤ maxBits) : LzwRegsWf maxBits LzwRegs.init where
  next_eq := rfl
  next_le := by decide
  bits_ge := Nat.le_refl 9
  bits_le := h
  readable := by decide
  two_le := nofun
  prev_ne := nofun
  entry_le := nofun
  prev_le := nofun
  tab_nil := fun _ => rfl

theorem LzwRegsWf.widen (h : LzwRegsWf maxBits r) : LzwRegsWf maxBits (widenCode maxBits r) := by
  rw [widenCode]
  split
  case isFalse => exact h
  case isTrue hw =>
    obtain ⟨hnext, hlt⟩ := hw
    have hpos := Nat.two_pow_pos r.codeBits
    have hreadable : r.nextCode < 2 ^ (r.codeBits + 1) := by rw [Nat.pow_succ]; omega
    exact { h with bits_ge := Nat.le_succ_of_le h.bits_ge, bits_le := hlt, readable := .inl hreadable }

/-- Once the width is chosen, the insertion of one more string leaves every code readable: below 12 bits CODE_BITS grew
at NEXT_CODE = 2^CODE_BITS - 1 (R255). -/
theorem LzwRegsWf.next_readable (h : LzwRegsWf maxBits r) (hmax : 12 ≤ maxBits) :
    r.nextCode + 1 < 2 ^ (widenCode maxBits r).codeBits ∨ 12 ≤ (widenCode maxBits r).codeBits := by
  have hbits := h.bits_ge
  have hreadable := h.readable
  have hpow : 2 ^ 9 ≤ 2 ^ r.codeBits := Nat.pow_le_pow_right (by decide) hbits
  rw [codeBits_widenCode]
  split
  · rw [Nat.pow_succ]
    omega
  · omega

theorem Resolves.ne_nil (hres : Resolves r str) (h : LzwRegsWf maxBits r) : str ≠ [] := by
  cases hres with
  | literal b => nofun
  | entry hk => exact List.ne_nil_of_length_pos (Nat.lt_of_lt_of_le Nat.two_pos (h.two_le _ (List.mem_of_getElem? hk)))
  | kwkwk hp => exact List.append_ne_nil_of_left_ne_nil (h.prev_ne _ hp) _

/-- A string emitted has at most NEXT_CODE - 257 bytes, for NEXT_CODE after the insertion: the entry of `258 + k` has at
most `k + 2`, and LZW_KWKWK emits one byte more than PREV where the table grows. -/
theorem Resolves.length_le (hres : Resolves r str) (h : LzwRegsWf maxBits r) :
    str.length + 257 ≤ (lzwInsert str r).nextCode := by
  have hge := (lzwInsert_nextCode_bounds str r).1
  have hnext := h.next_eq
  cases hres with
  | literal b => rw [List.length_singleton]; omega
  | entry hk =>
    have hle := h.entry_le _ _ hk
    have hlt := (List.getElem?_eq_some_iff.1 hk).1
    omega
  | @kwkwk p hp hlt =>
    have hle := h.prev_le p hp
    rw [lzwInsert_of_room hp hlt, List.length_append, List.length_take]
    show _ ≤ r.nextCode + 1
    omega

/-- The string inserted meets the bounds of an entry: PREV has at most NEXT_CODE - 257 bytes, and one is added. -/
theorem LzwRegsWf.inserted_length (h : LzwRegsWf maxBits r) (hres : Resolves r str) {p : Bytes} (hp : r.prev = some p) :
    2 ≤ (p ++ str.take 1).length ∧ (p ++ str.take 1).length ≤ r.tab.length + 2 := by
  have hle := h.prev_le p hp
  have hnext := h.next_eq
  have hppos := List.length_pos_of_ne_nil (h.prev_ne p hp)
  have hspos := List.length_pos_of_ne_nil (hres.ne_nil h)
  rw [List.length_append, List.length_take]
  omega

/-- A data code keeps the registers consistent, where the width left room for its insertion. -/
theorem LzwRegsWf.insert (h : LzwRegsWf maxBits r) (hres : Resolves r str)
    (hnext : r.nextCode + 1 < 2 ^ r.codeBits ∨ 12 ≤ r.codeBits) : LzwRegsWf maxBits (lzwInsert str r) := by
  have hprev_ne : ∀ p, some str = some p → p ≠ [] := fun p e => Option.some.inj e ▸ hres.ne_nil h
  have hprev_le : ∀ p, some str = some p → p.length + 257 ≤ (lzwInsert str r).nextCode :=
    fun p e => Option.some.inj e ▸ hres.length_le h
  obtain ⟨p, hp, hlt⟩ | hfix := room_or_fixed r
  · obtain ⟨htwo, hlen⟩ := h.inserted_length hres hp
    rw [lzwInsert_of_room hp hlt] at hprev_le ⊢
    refine { h with
      next_eq := ?_, next_le := hlt, readable := hnext, two_le := fun x hx => ?_, prev_ne := hprev_ne,
      entry_le := fun k x hk => ?_, prev_le := hprev_le, tab_nil := nofun }
    · simp only [List.length_append, List.length_singleton, h.next_eq, Nat.add_assoc]
    · rcases List.mem_append.1 hx with hx | hx
      · exact h.two_le x hx
      · rwa [List.mem_singleton.1 hx]
    · by_cases hold : k < r.tab.length
      · rw [List.getElem?_append_left hold] at hk
        exact h.entry_le k x hk
      · rw [List.getElem?_append_right (by omega), List.getElem?_singleton] at hk
        split at hk <;> cases hk
        omega
  · rw [lzwInsert_of_fixed hfix] at hprev_le ⊢
    exact { h with prev_ne := hprev_ne, prev_le := hprev_le, tab_nil := nofun }

/-! ## Every step -/

/-- The LZW registers are as before or initial, and the configuration stays. -/
def lzwKeptOrInit (s t : State) : Prop := t.cfg = s.cfg ∧ (t.eng.lzw = s.eng.lzw ∨ t.eng.lzw = LzwRegs.init)

theorem twelve_le_lzwMaxBits {cfg : Config} (h : Config.legal cfg = true) : 12 ≤ cfg.lzwMaxBits := by
  simp only [Config.legal, Bool.and_eq_true, decide_eq_true_eq] at h
  omega

theorem lzwWf_of_keptOrInit (hlegal : Config.legal s.cfg = true) (h : lzwKeptOrInit s t) (hs : lzwWf s) : lzwWf t := by
  obtain ⟨hcfg, hlzw | hlzw⟩ := h <;> rw [lzwWf_iff, hcfg, hlzw]
  · exact (lzwWf_iff s).1 hs
  · exact .init (by have := twelve_le_lzwMaxBits hlegal; omega)

theorem stepUnit_ne_lzw (hp : s.phase ≠ .lzw) : stepUnit s ≠ .lzw := by
  unfold stepUnit
  cases h : s.phase with
  | lzw => exact absurd h hp
  | orchestrate =>
    dsimp only
    split
    · nofun
    · split <;> nofun
  | _ => nofun

/-- Outside an LZW run no unit writes the LZW registers but to make them initial. -/
theorem lzwKeptOrInit_of_unit {u : JobUnit} (hu : u ≠ .lzw) (h : UnitResult u s t) : lzwKeptOrInit s t := by
  refine ⟨(unit_keeps_program h).1.1, ?_⟩
  cases h with
  | stays ht => exact ht.regs.lzw hu
  | advances | aborts | finishes => exact .inr rfl

theorem lzwKeptOrInit_of_host (h : HostResult s t) : lzwKeptOrInit s t := by
  cases h with
  | unchanged | writes | reads => exact ⟨rfl, .inl rfl⟩
  | starts op =>
    obtain ⟨_, h⟩ | ⟨_, t, rfl, ⟨_, h⟩ | ⟨_, h⟩⟩ := startJob_cases op s <;> rw [h]
    · exact ⟨rfl, .inl rfl⟩
    · exact ⟨rfl, .inr rfl⟩
    · exact ⟨rfl, .inr rfl⟩
  | acknowledges =>
    obtain ⟨_, h⟩ | ⟨_, _, h⟩ := acknowledge_cases s <;> rw [h] <;> exact ⟨rfl, .inl rfl⟩
  | stores sp => cases sp <;> exact ⟨rfl, .inl rfl⟩
  | resets => exact ⟨rfl, .inr rfl⟩

theorem lzwRegsWf_afterCode (hs : lzwWf s) : LzwRegsWf s.cfg.lzwMaxBits (afterCode s).eng.lzw :=
  afterCode_lzw s ▸ ((lzwWf_iff s).1 hs).widen

/-- A step of an LZW run keeps the registers consistent. -/
theorem lzwWf_of_lzw (hlegal : Config.legal s.cfg = true) (hp : s.phase = .lzw) (h : blockStep s = .next t)
    (hs : lzwWf s) : lzwWf t := by
  have hcfg : t.cfg = s.cfg := (unit_keeps_program (blockStep_result h)).1.1
  cases lzw_result hp h with
  | emits str hres _ hlzw =>
    rw [lzwWf_iff, hcfg, hlzw]
    exact (lzwRegsWf_afterCode hs).insert hres
      (((lzwWf_iff s).1 hs).next_readable (twelve_le_lzwMaxBits hlegal))
  | clears _ hlzw => exact lzwWf_of_keptOrInit hlegal ⟨hcfg, .inr hlzw⟩ hs
  | ends hover => exact lzwWf_of_keptOrInit hlegal ⟨hcfg, .inr (by rw [hover.2]; rfl)⟩ hs

/-- A step takes the host's next move, which is `pass` where the schedule is empty. -/
theorem step_eq_hostMove (s : State) : step s = hostMove (s.moves.headD .pass) (dropMove s) := by
  unfold step
  split
  next m ms hm => simp only [dropMove, hm, List.headD_cons, List.tail_cons]
  next hm =>
    have hs : dropMove s = s := by rw [dropMove, hm, List.tail_nil, ← hm]
    rw [hs, hm]
    rfl

theorem lzwWf_step (hlegal : Config.legal s.cfg = true) (hs : lzwWf s) (h : step s = .next t) : lzwWf t := by
  rw [step_eq_hostMove] at h
  obtain ⟨-, -, hstep⟩ | hhost := hostMove_result _ h
  · by_cases hp : (dropMove s).phase = .lzw
    · exact lzwWf_of_lzw (s := dropMove s) hlegal hp hstep hs
    · exact lzwWf_of_keptOrInit (s := dropMove s) hlegal
        (lzwKeptOrInit_of_unit (stepUnit_ne_lzw hp) (blockStep_result hstep)) hs
  · exact lzwWf_of_keptOrInit (s := dropMove s) hlegal (lzwKeptOrInit_of_host hhost) hs

/-- A code that goes on with its run emits at most NEXT_CODE - 256 bytes (R261). -/
theorem out_length_le_of_lzw (hp : s.phase = .lzw) (hs : lzwWf s) (h : blockStep s = .next t) (ht : t.phase = .lzw) :
    t.eng.out.length + 256 ≤ s.eng.out.length + s.eng.lzw.nextCode := by
  have hwf := lzwRegsWf_afterCode hs
  cases lzw_result hp h with
  | emits str hres hout _ =>
    have hlen : str.length + 257 ≤ s.eng.lzw.nextCode + 1 :=
      (hres.length_le hwf).trans (lzwInsert_nextCode_bounds str (afterCode s).eng.lzw).2
    rw [hout, List.length_append]
    show s.eng.out.length + str.length + 256 ≤ _
    omega
  | clears hout _ =>
    have hnext : s.eng.lzw.nextCode = 258 + s.eng.lzw.tab.length := hwf.next_eq
    rw [hout]
    show s.eng.out.length + 256 ≤ _
    omega
  | ends hover => cases ht.symm.trans hover.1

end Sys2Proof.Machine

open Sys2Proof Sys2Proof.Machine

/-- Settles O15: the width chosen before a code leaves room for the insertion after it (`LzwRegsWf.next_readable`), and
a code emits no more than the table grows to hold (`Resolves.length_le`). -/
theorem lzwRegistersStayConsistent : Obligations.LzwRegistersStayConsistent := by
  unfold Obligations.LzwRegistersStayConsistent
  exact ⟨fun s t hlegal hs h => lzwWf_step hlegal hs h, fun s t hrun hp hs h ht =>
    out_length_le_of_lzw hp hs (step_of_running hrun ▸ h) ht⟩

/-- Settles O46: each code is `lzwData` of its string, an exception, or the end of the stage. -/
theorem lzwDataCodesGrowTheTable : Obligations.LzwDataCodesGrowTheTable := by
  unfold Obligations.LzwDataCodesGrowTheTable
  refine ⟨fun i s str entry hcode hfixed hroom hcap => ?_, fun s h => ?_, fun s c hc h => ?_, fun s => ?_,
    fun s hlim => ?_⟩
  · have hexec : exec i s = .next (lzwData str s) := by
      obtain ⟨b, rfl, rfl⟩ | ⟨c, rfl, hc, hlt, hstr⟩ | ⟨p, rfl, hp, hlt, rfl⟩ := hcode
      · rfl
      · exact exec_lzwRef_of_string ((lzwString_assigned s.eng.lzw c.toNat hc hlt).trans hstr)
      · exact exec_lzwKwkwk_of_prev hp hlt
    rw [hexec, lzwData_of_fits hcap, lzwInsert_eq hfixed hroom]
    exact ⟨_, rfl, onlyCodec_setEng _ s, rfl, rfl⟩
  · exact ⟨_, exec_lzwKwkwk_of_fault h, aborted_raise _ 3 s⟩
  · exact ⟨_, exec_lzwRef_of_none (lzwString_eq_none hc h), aborted_raise _ 3 s⟩
  · exact ⟨_, rfl, onlyCodec_setEng _ s, rfl, rfl⟩
  · refine ⟨finishStage 3 s.eng.out s, rfl, ?_⟩
    rw [finishStage_of_withinLimits hlim]
    exact ⟨stageOver_nextStage _ s, rfl⟩

/-- Settles O47: the width is that of `widenCode`, and the end of the data is `step_of_lzwShort`. -/
theorem codeWidthGrowsEarly : Obligations.CodeWidthGrowsEarly := by
  unfold Obligations.CodeWidthGrowsEarly
  intro s width hs hp hwidth
  obtain rfl : width = nextWidth s := hwidth.trans (codeBits_widenCode s.cfg.lzwMaxBits s.eng.lzw).symm
  refine ⟨fun i used hd => ?_, fun hshort hlim => ⟨_, step_of_lzwShort hs hp hshort, ?_⟩⟩
  · obtain ⟨rfl, -⟩ := decode_lzwCode_eq_instr hd
    exact ⟨rfl, by rw [step_of_decode hs (want_of_lzw hp) hd, advance_prepare_of_lzw hp]; rfl⟩
  · have hlim' : withinLimits (prepare s) s.eng.out.length := prepare_of_lzw hp ▸ hlim
    rw [finishStage_of_withinLimits hlim', prepare_of_lzw hp]
    exact ⟨stageOver_nextStage s.eng.out s, rfl⟩

end

section
/-! The simple codecs (44_simple_codecs.md): the characters of ASCIIHex and ASCII85, the runs of RunLength, the ends of
their stages, and the reading of a whole ASCIIHex text. -/

namespace Sys2Proof.Machine

open Sys2Proof

variable {s : State} {unit : Nat} {o : Bytes} {c : Byte} {x : Host.Outcome State Fault Refusal}

/-! ## The ends of the stages -/

/-- A codec that does not write the Flate log ends its stage within the limits with STATUS as before (R133). -/
theorem stageOver_of_checksOutput (h : checksOutput unit o false x s) (hu : unit ≠ 0)
    (hlim : withinLimits s o.length) : ∃ t, x = .next t ∧ stageOver o s t ∧ t.status = s.status := by
  obtain ⟨e, n, rfl, hlog⟩ := h
  obtain ⟨rfl, -⟩ := hlog hu
  refine ⟨_, rfl, ?_⟩
  rw [finishStage_of_withinLimits (s := atStageEnd e s.status.flateStep false s) hlim]
  refine ⟨stageOver_nextStage o (atStageEnd e s.status.flateStep false s), ?_⟩
  rw [nextStage_status, atStageEnd, Bool.or_false]

/-! ## ASCIIHex (R281 to R283) -/

theorem exec_hexDigit_of_first {v : BitVec 4} (hv : hexVal c = some v) (hhi : s.eng.hi = none) :
    exec (.hexDigit c) s = .next { s with eng := { s.eng with hi := some v } } := by
  show execHexDigit c s = _
  simp only [execHexDigit, hv, hhi]

theorem exec_hexDigit_of_second {v h : BitVec 4} (hv : hexVal c = some v) (hhi : s.eng.hi = some h)
    (hcap : overCap s.cfg (s.eng.out.length + 1) = false) :
    exec (.hexDigit c) s = .next { s with
      eng := { s.eng with hi := none, out := s.eng.out ++ [BitVec.ofNat 8 (16 * h.toNat + v.toNat)] } } := by
  show execHexDigit c s = _
  simp only [execHexDigit, hv, hhi]
  rw [emit_of_fits (by rwa [List.length_append])]
  rfl

/-! ## ASCII85 (R290 to R293) -/

theorem exec_a85Digit_of_lt (c : Byte) (h : s.eng.ngrp < 4) :
    exec (.a85Digit c) s = .next { s with
      eng := { s.eng with acc := 85 * s.eng.acc + (c.toNat - 0x21), ngrp := s.eng.ngrp + 1 } } :=
  congrArg Host.Outcome.next (if_neg (by omega))

theorem exec_a85Digit_of_fifth (c : Byte) (h : s.eng.ngrp = 4) :
    exec (.a85Digit c) s = .next (emitGroup 4 (85 * s.eng.acc + (c.toNat - 0x21)) s id) :=
  congrArg Host.Outcome.next (if_pos (by omega))

theorem emitGroup_of_fits {k v : Nat} {next : State → State} (hv : v < 2 ^ 32)
    (hcap : overCap s.cfg (s.eng.out.length + (groupBytes k v).length) = false) :
    emitGroup k v s next =
      next { s with eng := { s.eng with out := s.eng.out ++ groupBytes k v, acc := 0, ngrp := 0 } } := by
  rw [emitGroup, if_neg (Nat.not_le.2 hv), emit_of_fits (by rwa [List.length_append])]
  rfl

theorem emitGroup_of_overflow {v : Nat} (k : Nat) (next : State → State) (hv : 2 ^ 32 ≤ v) :
    emitGroup k v s next = raise .a85Overflow 2 s := if_pos hv

theorem exec_a85Z_of_boundary (h : s.eng.ngrp = 0) (hcap : overCap s.cfg (s.eng.out.length + 4) = false) :
    exec .a85Z s = .next (appendOut [0, 0, 0, 0] s) := by
  show execA85Z s = _
  rw [execA85Z, if_neg (not_not_intro h), emit_of_fits (by rwa [List.length_append])]
  rfl

theorem exec_a85Z_of_midgroup (h : s.eng.ngrp ≠ 0) : exec .a85Z s = .next (raise .a85ZMidgroup 2 s) :=
  congrArg Host.Outcome.next (if_pos h)

/-- From two pending digits on the group is padded and emitted (R293). -/
theorem a85End_of_partial (hlo : 2 ≤ s.eng.ngrp) :
    a85End s = emitGroup (s.eng.ngrp - 1) (padGroup (5 - s.eng.ngrp) s.eng.acc) s fun t =>
      finishStage 2 t.eng.out t := by
  rw [a85End, if_neg (by omega), if_neg (by omega)]

theorem a85End_of_lone (h : s.eng.ngrp = 1) : a85End s = raise .a85LoneChar 2 s := by
  rw [a85End, if_neg (by omega), if_pos h]

/-- The value of a padded group (R293). -/
theorem padGroup_eq (n acc : Nat) : padGroup n acc = (acc + 1) * 85 ^ n - 1 := by
  have := padGroup_add_one n acc
  omega

theorem step_of_a85UsedUp (h : bytesUsedUp .a85 s) : step s = exec .a85Term s := by
  have hphase := h.2.1
  rw [step_of_bytesUsedUp h nofun (by rw [want, hphase]) rfl, handleReject, hphase]
  rfl

/-! ## RunLength (R298, R300) -/

/-- The bytes of a literal run are there exactly where taking them gives that many. -/
theorem length_take_drop_lt_iff (b : Bytes) (pos n : Nat) :
    ((b.drop pos).take (n + 1)).length < n + 1 ↔ b.length < pos + (n + 1) := by
  rw [List.length_take, List.length_drop]
  omega

theorem exec_rlLiteral_of_short {n : BitVec 7} (h : s.eng.src.length < s.eng.bytePos + (n.toNat + 1)) :
    exec (.rlLiteral n) s =
      .next (raise (.rlTruncLiteral (n.toNat + 1) (s.eng.src.length - s.eng.bytePos)) 4 s) :=
  congrArg Host.Outcome.next (if_pos h)

theorem exec_rlLiteral_of_fits {n : BitVec 7} {run : Bytes}
    (hrun : run = (s.eng.src.drop s.eng.bytePos).take (n.toNat + 1)) (hlen : run.length = n.toNat + 1)
    (hcap : overCap s.cfg (s.eng.out.length + (n.toNat + 1)) = false) :
    exec (.rlLiteral n) s = .next { s with
      eng := { s.eng with out := s.eng.out ++ run, bytePos := s.eng.bytePos + (n.toNat + 1) } } := by
  have henough : ¬ s.eng.src.length < s.eng.bytePos + (n.toNat + 1) := by
    rw [← length_take_drop_lt_iff, ← hrun, hlen]
    exact Nat.lt_irrefl _
  show execRlLiteral n s = _
  rw [execRlLiteral, if_neg henough, ← hrun, emit_of_fits (by rwa [List.length_append, hlen])]
  rfl

theorem exec_rlRepeat_of_none {n : BitVec 7} (h : s.eng.src[s.eng.bytePos]? = none) :
    exec (.rlRepeat n) s = .next (raise .rlTruncRepeat 4 s) := by
  show execRlRepeat n s = _
  simp only [execRlRepeat, h]

theorem exec_rlRepeat_of_fits {n : BitVec 7} {b : Byte} (h : s.eng.src[s.eng.bytePos]? = some b)
    (hcap : overCap s.cfg (s.eng.out.length + (257 - (128 + n.toNat))) = false) :
    exec (.rlRepeat n) s = .next { s with
      eng := { s.eng with
        out := s.eng.out ++ List.replicate (257 - (128 + n.toNat)) b, bytePos := s.eng.bytePos + 1 } } := by
  show execRlRepeat n s = _
  simp only [execRlRepeat, h]
  rw [emit_of_fits (by rwa [List.length_append, List.length_replicate])]
  rfl

/-! ## A whole ASCIIHex text (R282) -/

theorem run_succ_of_step {t : State} (h : step s = .next t) (k : Nat) :
    Host.Core.run Sys2Proof.core (k + 1) s = Host.Core.run Sys2Proof.core k t := by
  have hcore : Sys2Proof.core.step s = .next t := h
  simp only [Host.Core.run, hcore]

/-- A step of an ASCIIHex run with a byte left reads it as the character it is, and moves past it (R101). -/
theorem step_of_hexByte {rest : Bytes} (hs : running s) (hp : s.phase = .hex)
    (hsrc : s.eng.src.drop s.eng.bytePos = c :: rest) :
    step s = exec (decodeHex s.cfg.ws (rest.all s.cfg.ws.contains) c)
      { s with eng := { s.eng with bytePos := s.eng.bytePos + 1 } } := by
  have hprep : prepare s = s := prepare_of_ne (by simp [hp])
  have hlast : lastSignificant s = rest.all s.cfg.ws.contains := by
    rw [lastSignificant, ← List.tail_drop, hsrc, List.tail_cons]
  have hbits : restBytes s = bitsM 8 c.toNat ++ streamM rest := by rw [restBytes, hsrc, streamM, List.flatMap_cons]; rfl
  have hw : want (prepare s) = .code (.hexChar s.cfg.ws (lastSignificant s)) (restBytes s) := by rw [hprep, want, hp]
  have hd : decode (.hexChar s.cfg.ws (lastSignificant s)) (restBytes s) =
      .instr (decodeHex s.cfg.ws (lastSignificant s) c) 8 := by rw [hbits, decode, decodeByte_bitsM]
  rw [step_of_decode hs hw hd, hprep, hlast]
  rfl

/-- No hexadecimal digit is in the default whitespace set (R281, R287). -/
theorem decodeHex_of_hexVal {v : BitVec 4} {last : Bool} (h : hexVal c = some v) :
    decodeHex Config.default.ws last c = .hexDigit c := by
  have hws : ∀ c : Byte, (hexVal c).isSome = true → Config.default.ws.contains c = false := by decide
  have hsome : (hexVal c).isSome = true := by rw [h]; rfl
  rw [decodeHex, hws c hsome, if_neg Bool.false_ne_true, if_pos hsome]

/-- The two characters are hexadecimal digits of the byte, the high nibble first (R283). -/
def spells (b : Byte) (p : Byte × Byte) : Prop :=
  ∃ hi lo, hexVal p.1 = some hi ∧ hexVal p.2 = some lo ∧ b.toNat = 16 * hi.toNat + lo.toNat

/-- The job of `s` inside an ASCIIHex run over `src`: the place in it, the pending digit and the output. -/
def inHexRun (src : Bytes) (pos : Nat) (hi : Option (BitVec 4)) (out : Bytes) (s : State) : State :=
  { s with eng := { Engine.empty with src := src, bytePos := pos, hi := hi, out := out } }

section HexText

variable {src rest out b : Bytes} {pos : Nat} {hi lo : BitVec 4} {text : List (Byte × Byte)}

variable (hs : running s) (hp : s.phase = .hex) (hws : s.cfg.ws = Config.default.ws)

include hs hp hws

theorem step_of_hexDigit {v : BitVec 4} (hsrc : s.eng.src.drop s.eng.bytePos = c :: rest) (hv : hexVal c = some v) :
    step s = exec (.hexDigit c) { s with eng := { s.eng with bytePos := s.eng.bytePos + 1 } } := by
  rw [step_of_hexByte hs hp hsrc, hws, decodeHex_of_hexVal hv]

/-- A `>` that ends the input is passed over (R282, log 23). -/
theorem step_of_hexEod (hsrc : s.eng.src.drop s.eng.bytePos = [0x3E]) :
    step s = .next { s with eng := { s.eng with bytePos := s.eng.bytePos + 1 } } := by
  rw [step_of_hexByte hs hp hsrc, hws]
  rfl

/-- A digit with none pending becomes the pending one. -/
theorem step_of_firstDigit (hsrc : src.drop pos = c :: rest) (hhi : hexVal c = some hi) :
    step (inHexRun src pos none out s) = .next (inHexRun src (pos + 1) (some hi) out s) :=
  (step_of_hexDigit (s := inHexRun src pos none out s) hs hp hws hsrc hhi).trans (exec_hexDigit_of_first hhi rfl)

/-- A digit with one pending completes its byte. -/
theorem step_of_secondDigit (hbuf : s.cfg.bufCap = none) (hsrc : src.drop pos = c :: rest) (hlo : hexVal c = some lo) :
    step (inHexRun src pos (some hi) out s) =
      .next (inHexRun src (pos + 1) none (out ++ [BitVec.ofNat 8 (16 * hi.toNat + lo.toNat)]) s) := by
  have hcap : overCap s.cfg (out.length + 1) = false := by rw [overCap, hbuf]
  rw [step_of_hexDigit (s := inHexRun src pos (some hi) out s) hs hp hws hsrc hlo]
  exact exec_hexDigit_of_second (s := inHexRun src (pos + 1) (some hi) out s) hlo rfl hcap

/-- The digit pairs of `b` and a `>` are read in two steps a byte, one for the `>`, and one that ends the stage. -/
theorem run_of_spells (hbuf : s.cfg.bufCap = none) (htext : List.Forall₂ spells b text)
    (hsrc : src.drop pos = (text.flatMap fun p => [p.1, p.2]) ++ [0x3E]) (hlim : withinLimits s (out ++ b).length) :
    ∃ t, Host.Core.run Sys2Proof.core (2 * b.length + 2) (inHexRun src pos none out s) = .next t ∧
      stageOver (out ++ b) s t ∧ t.status = s.status := by
  induction htext generalizing pos out with
  | nil =>
    have hused : bytesUsedUp .hex (inHexRun src (pos + 1) none out s) := by
      have hlen : src.length - pos = 1 := by rw [← List.length_drop, hsrc]; rfl
      exact ⟨hs, hp, by show src.length ≤ pos + 1; omega⟩
    rw [List.append_nil] at hlim ⊢
    have heod := step_of_hexEod (s := inHexRun src pos none out s) hs hp hws hsrc
    obtain ⟨t, hstep, hover⟩ :=
      stageOver_of_checksOutput (hexEnds_checksOutput ⟨hused, rfl, .inl ⟨rfl, rfl⟩⟩) nofun hlim
    exact ⟨t, run_two heod hstep, hover⟩
  | @cons d p b text hpair _ ih =>
    obtain ⟨hi, lo, hhi, hlo, hval⟩ := hpair
    have hbyte : BitVec.ofNat 8 (16 * hi.toNat + lo.toNat) = d := by
      rw [← hval, BitVec.ofNat_toNat, BitVec.setWidth_eq]
    have hsecond : src.drop (pos + 1) = p.2 :: ((text.flatMap fun p => [p.1, p.2]) ++ [0x3E]) := by
      rw [← List.tail_drop, hsrc]
      rfl
    have hrest : src.drop (pos + 2) = (text.flatMap fun p => [p.1, p.2]) ++ [0x3E] := by
      rw [← List.tail_drop, hsecond, List.tail_cons]
    rw [List.length_cons, show 2 * (b.length + 1) + 2 = 2 * b.length + 2 + 1 + 1 by omega,
      run_succ_of_step (step_of_firstDigit hs hp hws hsrc hhi),
      run_succ_of_step (step_of_secondDigit hs hp hws hbuf hsecond hlo), hbyte]
    rw [List.append_cons out d b] at hlim ⊢
    exact ih hrest hlim

end HexText

end Sys2Proof.Machine

open Sys2Proof Sys2Proof.Machine

/-- Settles O48: each character is one change of the codec registers or an abort, and the end of the input is
`hexEnds`. -/
theorem asciiCharactersBuildTheirBytes : Obligations.AsciiCharactersBuildTheirBytes := by
  unfold Obligations.AsciiCharactersBuildTheirBytes
  refine ⟨fun c s => ⟨rfl, rfl, rfl⟩, fun c v s hv => ⟨fun hhi => ?_, fun h hhi hcap => ?_⟩,
    fun s hs hp hpos => ⟨fun hhi hlim => ?_, fun h hhi hcap hlim => ?_⟩,
    fun c v s _ hv => ⟨fun hlt => ?_, fun hfour hv32 hcap => ?_, fun hfour hv32 => ?_⟩,
    fun s => ⟨fun hzero hcap => ?_, fun hmid => ?_⟩⟩
  · exact ⟨_, exec_hexDigit_of_first hv hhi, onlyCodec_setEng _ s, rfl, rfl⟩
  · exact ⟨_, exec_hexDigit_of_second hv hhi hcap, onlyCodec_setEng _ s, rfl, rfl⟩
  · exact stageOver_of_checksOutput (hexEnds_checksOutput ⟨⟨hs, hp, hpos⟩, rfl, .inl ⟨hhi, rfl⟩⟩) nofun hlim
  · rw [← List.length_singleton (a := BitVec.ofNat 8 (16 * h.toNat)), ← List.length_append] at hcap hlim
    exact stageOver_of_checksOutput
      (hexEnds_checksOutput ⟨⟨hs, hp, hpos⟩, rfl, .inr ⟨h, hhi, rfl, hcap⟩⟩) nofun hlim
  · subst hv
    exact ⟨_, exec_a85Digit_of_lt c hlt, onlyCodec_setEng _ s, rfl, rfl⟩
  · rw [exec_a85Digit_of_fifth c hfour, ← hv, emitGroup_of_fits hv32 hcap]
    exact ⟨_, rfl, onlyCodec_setEng _ s, rfl, rfl⟩
  · rw [exec_a85Digit_of_fifth c hfour, ← hv, emitGroup_of_overflow 4 id hv32]
    exact ⟨_, rfl, aborted_raise .a85Overflow 2 s⟩
  · exact ⟨_, exec_a85Z_of_boundary hzero hcap, onlyCodec_setEng _ s, rfl, rfl⟩
  · exact ⟨_, exec_a85Z_of_midgroup hmid, aborted_raise .a85ZMidgroup 2 s⟩

/-- Settles O49: without a byte left the step is the terminator's (`step_of_a85UsedUp`), which is `a85Ends` or an abort,
by how many digits are pending and what they are padded to (`padGroup_eq`). -/
theorem ascii85FinalGroup : Obligations.Ascii85FinalGroup := by
  unfold Obligations.Ascii85FinalGroup
  refine ⟨fun s hs hp hpos => step_of_a85UsedUp ⟨hs, hp, hpos⟩, ?_⟩
  rintro s n v rfl hv
  refine ⟨fun hzero hlim => ?_, fun hone => ?_, fun hlo hhi hv32 hcap hlim => ?_, fun hlo _ hv32 => ?_⟩
  · exact stageOver_of_checksOutput (a85Ends_checksOutput ⟨rfl, .inl ⟨hzero, rfl⟩⟩) nofun hlim
  · exact ⟨_, congrArg Host.Outcome.next (a85End_of_lone hone), aborted_raise .a85LoneChar 2 s⟩
  · have hlen : (s.eng.out ++ (List.range (s.eng.ngrp - 1)).map fun k => BitVec.ofNat 8 (v / 256 ^ (3 - k))).length =
        s.eng.out.length + (s.eng.ngrp - 1) := by
      rw [List.length_append, List.length_map, List.length_range]
    rw [← hlen] at hcap hlim
    obtain ⟨t, hstep, hover, hstatus⟩ := stageOver_of_checksOutput
      (a85Ends_checksOutput ⟨rfl, .inr ⟨v, hv, hlo, hhi, hv32, rfl, hcap⟩⟩) nofun hlim
    exact ⟨t, _, hstep, hover, hstatus, rfl⟩
  · rw [hv, ← padGroup_eq] at hv32
    refine ⟨_, congrArg Host.Outcome.next ?_, aborted_raise .a85Overflow 2 s⟩
    rw [a85End_of_partial hlo, emitGroup_of_overflow _ _ hv32]

/-- Settles O50: a run that is there is an `emit` that fits, one that is cut is an abort, and the ends are `rlEnds`. -/
theorem runLengthBytesExpand : Obligations.RunLengthBytesExpand := by
  unfold Obligations.RunLengthBytesExpand
  refine ⟨fun n s run hrun => ⟨fun hlen hcap => ?_, fun hshort => ?_⟩,
    fun n s => ⟨fun b hb hcap => ?_, fun hpos => ?_⟩, fun s hlim => ?_, fun s hused hlim => ?_⟩
  · exact ⟨_, exec_rlLiteral_of_fits hrun hlen hcap, onlyCodec_setEng _ s, rfl, rfl⟩
  · rw [hrun, length_take_drop_lt_iff] at hshort
    exact ⟨_, exec_rlLiteral_of_short hshort, aborted_raise _ 4 s⟩
  · exact ⟨_, exec_rlRepeat_of_fits hb hcap, onlyCodec_setEng _ s, rfl, rfl⟩
  · exact ⟨_, exec_rlRepeat_of_none (List.getElem?_eq_none hpos), aborted_raise .rlTruncRepeat 4 s⟩
  · exact stageOver_of_checksOutput (rlEnds_checksOutput ⟨rfl, .inl rfl⟩) nofun hlim
  · exact stageOver_of_checksOutput (rlEnds_checksOutput ⟨rfl, .inr ⟨hused, rfl⟩⟩) nofun hlim

/-- Settles O51: the pairs of the statement are those of `spells`, which a run reads one by one (`run_of_spells`). -/
theorem hexTextDecodesToItsBytes : Obligations.HexTextDecodesToItsBytes := by
  unfold Obligations.HexTextDecodesToItsBytes
  intro b text s hs hp hlen hpairs heng hws hbuf hlim
  have htext : List.Forall₂ spells b text := by
    refine List.forall₂_iff_get.2 ⟨hlen.symm, fun k hb ht => ?_⟩
    have hpair := hpairs k hb
    rwa [List.getD_eq_getElem _ _ hb, List.getD_eq_getElem _ _ ht] at hpair
  have hstart : s = inHexRun ((text.flatMap fun p => [p.1, p.2]) ++ [0x3E]) 0 none [] s :=
    congrArg (fun e : Engine => { s with eng := e }) heng
  have hrun := run_of_spells (out := []) hs hp hws hbuf htext List.drop_zero hlim
  rwa [← hstart] at hrun

end

section
/-! The predictors (45_predictor.md): how a predictor run begins, the rows decoded from the bytes before them, the choice of
Paeth, and what ends the run. -/

namespace Sys2Proof.Machine

open Sys2Proof

variable {s : State} {row : Bytes}

/-! ## The selector (R132, R320) -/

/-- Every value outside the table of R93 is illegal. -/
theorem legalSelector_of_not_mem {p : BitVec 32} (h : p ∉ ([1, 2, 10, 11, 12, 13, 14, 15] : List (BitVec 32))) :
    legalSelector p = false := by
  simpa [legalSelector, ← BitVec.toNat_inj] using h

/-- A step at the stage boundary NFILT runs the selector of the job (R132, R133). -/
theorem step_of_selector (hs : running s) (hp : s.phase = .orchestrate) (hstage : s.stage = s.j.desc.nfilt.toNat) :
    step s = exec (decodePred (predSelector s.j)) s := by
  have hprep : prepare s = s := prepare_of_ne (by simp [hp])
  have hw : want (prepare s) = .code .pred (bitsL 32 (predSelector s.j).toNat) := by
    simp only [hprep, want, hp, hstage, Nat.lt_irrefl, if_false, if_true]
  have hread : fieldL 32 (bitsL 32 (predSelector s.j).toNat) = some (predSelector s.j).toNat := by
    simpa [Nat.mod_eq_of_lt (predSelector s.j).isLt] using fieldL_bitsL 32 (predSelector s.j).toNat []
  have hd : decode .pred (bitsL 32 (predSelector s.j).toNat) = .instr (decodePred (predSelector s.j)) 32 := by
    simp only [decode, hread, BitVec.ofNat_toNat, BitVec.setWidth_eq]
  rw [step_of_decode hs hw hd, hprep]
  rfl

/-! ## The geometry (R322, R324) -/

theorem legalGeometry_iff (d : Descriptor) :
    legalGeometry d = true ↔ d.columns ≠ 0 ∧ d.colors ≠ 0 ∧ d.bpc ≠ 0 := by
  simp [legalGeometry, ← BitVec.toNat_inj, and_assoc]

section Enter

variable {selector n : Nat} {implied : Option Nat} {p : Phase}

theorem enterPredictor_of_badParams (h : s.j.desc.columns = 0 ∨ s.j.desc.colors = 0 ∨ s.j.desc.bpc = 0) :
    enterPredictor selector n implied p s = badParams selector s := by
  have hgeo : legalGeometry s.j.desc = false := by
    rw [Bool.eq_false_iff, ne_eq, legalGeometry_iff]
    tauto
  exact if_pos hgeo

variable (hcolumns : s.j.desc.columns ≠ 0) (hcolors : s.j.desc.colors ≠ 0) (hbpc : s.j.desc.bpc ≠ 0)

include hcolumns hcolors hbpc

theorem enterPredictor_of_partialRow (h : s.cur.length % n ≠ 0) :
    enterPredictor selector n implied p s = raise (.predRowMismatch s.cur.length n) 8 s := by
  rw [enterPredictor, (legalGeometry_iff _).2 ⟨hcolumns, hcolors, hbpc⟩, if_neg Bool.noConfusion, if_pos h]

theorem enterPredictor_of_wholeRows (h : s.cur.length % n = 0) :
    enterPredictor selector n implied p s = { s with
      phase := p
      eng := { Engine.empty with
        src := s.cur, pred := ⟨List.replicate (pixelBytes s.j.desc) 0, implied, 0⟩ } } := by
  rw [enterPredictor, (legalGeometry_iff _).2 ⟨hcolumns, hcolors, hbpc⟩, if_neg Bool.noConfusion,
    if_neg (not_not_intro h)]

end Enter

/-! ## A row, byte by byte (R325, R327) -/

/-- A row decoded left to right, where `f` gives the next byte from the bytes before it and its encoded byte. -/
def decodedRow (f : Bytes → Byte → Byte) (enc : Bytes) : Bytes := enc.foldl (fun row e => row ++ [f row e]) []

/-- The next byte of a PNG row (R327, R335). -/
def pngByte (tag bpp : Nat) (prevRow row : Bytes) (e : Byte) : Byte :=
  e + BitVec.ofNat 8 (pngPred tag (leftOf row row.length bpp) (prevRow.getD row.length 0)
    (leftOf prevRow row.length bpp))

/-- The next byte of a TIFF row (R325). -/
def tiffByte (colors : Nat) (row : Bytes) (e : Byte) : Byte := e + leftOf row row.length colors

/-- A recursion that appends the byte `f` gives and goes on decodes such a row. -/
theorem eq_decodedRow {f : Bytes → Byte → Byte} {decodeFrom : Bytes → Bytes → Bytes}
    (hnil : ∀ done, decodeFrom done [] = done)
    (hcons : ∀ done e es, decodeFrom done (e :: es) = decodeFrom (done ++ [f done e]) es) (enc : Bytes) :
    decodeFrom [] enc = decodedRow f enc := by
  have hfold (done : Bytes) : decodeFrom done enc = enc.foldl (fun row e => row ++ [f row e]) done := by
    induction enc generalizing done with
    | nil => exact hnil done
    | cons e enc ih => rw [hcons, ih, List.foldl_cons]
  exact hfold []

theorem pngDecodeRow_eq (tag bpp : Nat) (prevRow enc : Bytes) :
    pngDecodeRow tag bpp prevRow [] enc = decodedRow (pngByte tag bpp prevRow) enc :=
  eq_decodedRow (fun _ => rfl) (fun _ _ _ => rfl) enc

theorem tiffDecodeRow_eq (colors : Nat) (enc : Bytes) :
    tiffDecodeRow colors [] enc = decodedRow (tiffByte colors) enc :=
  eq_decodedRow (fun _ => rfl) (fun _ _ _ => rfl) enc

theorem decodedRow_append_singleton (f : Bytes → Byte → Byte) (enc : Bytes) (e : Byte) :
    decodedRow f (enc ++ [e]) = decodedRow f enc ++ [f (decodedRow f enc) e] := by
  rw [decodedRow, List.foldl_append]
  rfl

@[simp] theorem length_decodedRow (f : Bytes → Byte → Byte) (enc : Bytes) : (decodedRow f enc).length = enc.length := by
  induction enc using List.reverseRecOn with
  | nil => rfl
  | append_singleton enc e ih => rw [decodedRow_append_singleton, List.length_append, ih, List.length_append]; rfl

/-- Byte `i` of a row is what `f` gives from the `i` bytes before it. -/
theorem getD_decodedRow (f : Bytes → Byte → Byte) {enc : Bytes} {i : Nat} (hi : i < enc.length) :
    (decodedRow f enc).getD i 0 = f ((decodedRow f enc).take i) (enc.getD i 0) := by
  induction enc using List.reverseRecOn with
  | nil => exact absurd hi (Nat.not_lt_zero i)
  | append_singleton enc e ih =>
    rw [decodedRow_append_singleton]
    have hlen : (decodedRow f enc).length = enc.length := length_decodedRow f enc
    obtain hlt | rfl : i < enc.length ∨ i = enc.length := by
      rw [List.length_append, List.length_singleton] at hi
      omega
    · rw [List.getD_append _ _ _ _ (hlen ▸ hlt), List.getD_append _ _ _ _ hlt,
        List.take_append_of_le_length (hlen ▸ hlt.le), ih hlt]
    · rw [← hlen, List.take_left, hlen, List.getD_append_right _ _ _ _ hlen.le, List.getD_append_right _ _ _ _ le_rfl,
        hlen, Nat.sub_self, List.getD_cons_zero, List.getD_cons_zero]

/-- A neighbour to the left of byte `i` is among the `i` bytes before it (R335). -/
theorem leftOf_take (row : Bytes) {i back : Nat} (hback : 0 < back) : leftOf (row.take i) i back = leftOf row i back := by
  unfold leftOf
  split
  case isTrue h => rw [List.getD_eq_getElem?_getD, List.getElem?_take_of_lt (by omega), ← List.getD_eq_getElem?_getD]
  case isFalse => rfl

section Rows

variable {enc : Bytes} {i : Nat} (hi : i < enc.length)

include hi

theorem length_take_decodedRow (f : Bytes → Byte → Byte) : ((decodedRow f enc).take i).length = i := by
  rw [List.length_take, length_decodedRow, Nat.min_eq_left hi.le]

/-- Byte `i` of a PNG row, from its three neighbours (R327, R335). -/
theorem getD_pngRow (tag : Nat) {bpp : Nat} (prevRow : Bytes) (hbpp : 0 < bpp)
    (hrow : row = decodedRow (pngByte tag bpp prevRow) enc) :
    row.getD i 0 = enc.getD i 0 +
      BitVec.ofNat 8 (pngPred tag (leftOf row i bpp) (prevRow.getD i 0) (leftOf prevRow i bpp)) := by
  rw [hrow, getD_decodedRow _ hi, pngByte, length_take_decodedRow hi, leftOf_take _ hbpp]

/-- Byte `i` of a TIFF row, from its left neighbour (R325). -/
theorem getD_tiffRow {colors : Nat} (hcolors : 0 < colors) (hrow : row = decodedRow (tiffByte colors) enc) :
    row.getD i 0 = enc.getD i 0 + leftOf row i colors := by
  rw [hrow, getD_decodedRow _ hi, tiffByte, length_take_decodedRow hi, leftOf_take _ hcolors]

end Rows

/-! ## A row of the run (R325, R327) -/

theorem bytesPerPixel_pos {d : Descriptor} (h : d.colors ≠ 0) : 0 < bytesPerPixel d :=
  Nat.pos_of_ne_zero fun hzero => h (BitVec.eq_of_toNat_eq hzero)

theorem length_rowBytes (h : s.eng.bytePos + pixelBytes s.j.desc ≤ s.eng.src.length) :
    (rowBytes s).length = pixelBytes s.j.desc := by
  rw [rowBytes, List.length_take, List.length_drop]
  omega

theorem getD_rowBytes {i : Nat} (h : i < pixelBytes s.j.desc) :
    (rowBytes s).getD i 0 = s.eng.src.getD (s.eng.bytePos + i) 0 := by
  simp only [rowBytes, List.getD_eq_getElem?_getD, List.getElem?_take_of_lt h, List.getElem?_drop]

/-- A decoded row within the capacity goes out (R325, R327). -/
theorem finishRow_of_fits {pred : PredRegs} (hlen : row.length = pixelBytes s.j.desc)
    (hcap : overCap s.cfg (s.eng.out.length + pixelBytes s.j.desc) = false) :
    finishRow row pred s = { s with
      eng := { s.eng with
        out := s.eng.out ++ row, bytePos := s.eng.bytePos + pixelBytes s.j.desc, pred := pred } } := by
  rw [finishRow, emit_of_fits (by rwa [List.length_append, hlen])]
  rfl

/-! ## The steps of a run (R325, R327, R328) -/

theorem decodeTag_of_getElem? {tag : Byte} {i : Instr}
    (h : [Instr.pngNone, .pngSub, .pngUp, .pngAverage, .pngPaeth][tag.toNat]? = some i) : decodeTag tag = i := by
  unfold decodeTag
  generalize tag.toNat = n at h ⊢
  match n, h with
  | 0, h | 1, h | 2, h | 3, h | 4, h => exact Option.some.inj h
  | n + 5, h => cases h

/-- A step of a PNG run takes the tag byte and runs the row of the implied tag, or else of the stored one (R328). -/
theorem step_of_pngTag {stored : Byte} (hs : running s) (hp : s.phase = .pngRow)
    (hsrc : s.eng.src[s.eng.bytePos]? = some stored) :
    step s = exec (decodeTag ((s.eng.pred.implied.map (BitVec.ofNat 8)).getD stored))
      { s with eng := { s.eng with bytePos := s.eng.bytePos + 1 } } := by
  have hprep : prepare s = s := prepare_of_ne (by simp [hp])
  obtain ⟨hpos, hget⟩ := List.getElem?_eq_some_iff.1 hsrc
  have hbits : restBytes s = bitsM 8 stored.toNat ++ streamM (s.eng.src.drop (s.eng.bytePos + 1)) := by
    rw [restBytes, List.drop_eq_getElem_cons hpos, hget, streamM, List.flatMap_cons]
    rfl
  have hw : want (prepare s) = .code (.pngRow s.eng.pred.implied) (restBytes s) := by
    simp only [hprep, want, hp, if_neg (Nat.not_le.2 hpos)]
  have hd : decode (.pngRow s.eng.pred.implied) (restBytes s) =
      .instr (decodeTag ((s.eng.pred.implied.map (BitVec.ofNat 8)).getD stored)) 8 := by
    rw [hbits, decode, decodeByte_bitsM]
  rw [step_of_decode hs hw hd, hprep]
  rfl

theorem step_of_tiffRow (hs : running s) (hp : s.phase = .tiffRow) (hpos : s.eng.bytePos < s.eng.src.length) :
    step s = exec .tiffRow s := by
  have hprep : prepare s = s := prepare_of_ne (by simp [hp])
  have hw : want (prepare s) = .code .tiffRow [] := by simp only [hprep, want, hp, if_neg (Nat.not_le.2 hpos)]
  rw [step_of_decode hs hw rfl, hprep]
  rfl

/-- With no row left the rows are the working buffer, whatever their length (R336, R140). -/
theorem stageOver_of_rowsUsedUp {p : Phase} (hrows : p = .tiffRow ∨ p = .pngRow) (h : bytesUsedUp p s) :
    ∃ t, step s = .next t ∧ stageOver s.eng.out s t ∧ t.status = s.status := by
  obtain ⟨hs, hp, hpos⟩ := h
  have hprep : prepare s = s := prepare_of_ne (by rcases hrows with rfl | rfl <;> simp [hp])
  have hw : want (prepare s) = .event .predDone := by
    rcases hrows with rfl | rfl <;> simp only [hprep, want, hp, if_pos hpos]
  exact ⟨_, step_of_event hs hw, hprep.symm ▸ stageOver_nextStage s.eng.out s, by rw [hprep]; rfl⟩

/-! ## Paeth (R334) -/

/-- How far `x` is from left + up - upLeft (R334). -/
def paethDistance (a b c x : Nat) : Nat := (((a : Int) + b - c) - x).natAbs

/-- Paeth by the three distances alone. -/
theorem paeth_eq (a b c : Nat) : paeth a b c =
    if paethDistance a b c a ≤ paethDistance a b c b ∧ paethDistance a b c a ≤ paethDistance a b c c then a
    else if paethDistance a b c b ≤ paethDistance a b c c then b else c := rfl

end Sys2Proof.Machine

open Sys2Proof Sys2Proof.Machine

/-- Settles O23: the step reads the selector of the job (`step_of_selector`), and whole rows begin the run
(`enterPredictor_of_wholeRows`). -/
theorem predictorBeginsItsRows : Obligations.PredictorBeginsItsRows := by
  unfold Obligations.PredictorBeginsItsRows
  refine ⟨fun s sel hs hp hstage hon hoff => ?_, fun s => ⟨_, rfl, stageOver_nextStage s.cur s, rfl⟩, ?_⟩
  · have hsel : predSelector s.j = sel := by
      unfold predSelector
      split
      case isTrue h => exact (hon h).symm
      case isFalse h => exact (hoff h).symm
    rw [step_of_selector hs hp hstage, hsel]
    refine ⟨fun p hmem hval => ?_, fun hmem => ?_⟩
    · subst hval
      fin_cases hmem <;> rfl
    · rw [decodePred_of_illegal (legalSelector_of_not_mem hmem)]
  · intro p hmem s pbr hcolumns hcolors hbpc hpbr hrows
    obtain rfl : pbr = pixelBytes s.j.desc := hpbr
    obtain ⟨selector, hexec⟩ : ∃ selector,
        exec p.1 s = .next (enterPredictor selector (pixelBytes s.j.desc + p.2.1) p.2.2.1 p.2.2.2 s) := by
      fin_cases hmem <;> exact ⟨_, rfl⟩
    rw [hexec, enterPredictor_of_wholeRows hcolumns hcolors hbpc hrows]
    exact ⟨_, rfl, onlyCodec_setCodec _ _ s, rfl, rfl⟩

/-- Settles O24: both refusals of `enterPredictor`. -/
theorem predictorRefusesBadGeometry : Obligations.PredictorRefusesBadGeometry := by
  unfold Obligations.PredictorRefusesBadGeometry
  intro p hmem s row hrow
  obtain rfl : row = pixelBytes s.j.desc + p.2.2 := hrow
  obtain ⟨implied, ph, hexec⟩ : ∃ implied ph,
      exec p.1 s = .next (enterPredictor p.2.1 (pixelBytes s.j.desc + p.2.2) implied ph s) := by
    fin_cases hmem <;> exact ⟨_, _, rfl⟩
  rw [hexec]
  refine ⟨fun hzero => ⟨_, rfl, ?_⟩, fun hcolumns hcolors hbpc hrows => ⟨_, rfl, ?_⟩⟩
  · rw [enterPredictor_of_badParams hzero]
    exact aborted_raise (.predBadParams p.2.1 _ _ _) 8 s
  · rw [enterPredictor_of_partialRow hcolumns hcolors hbpc hrows]
    exact aborted_raise (.predRowMismatch _ _) 8 s

/-- Settles O25: the tag selects the row (`step_of_pngTag`), and each byte of it comes from its neighbours
(`getD_pngRow`). -/
theorem pngRowFollowsItsTag : Obligations.PngRowFollowsItsTag := by
  unfold Obligations.PngRowFollowsItsTag
  refine ⟨fun s stored tag hs hp hsrc hnone hsome => ?_, fun s => stageOver_of_rowsUsedUp (.inr rfl),
    fun p hmem s hcolors hpos hcap => ?_⟩
  · dsimp only
    rw [step_of_pngTag hs hp hsrc]
    cases himp : s.eng.pred.implied with
    | none =>
      obtain rfl := hnone himp
      exact ⟨fun i hi => by rw [← decodeTag_of_getElem? hi]; rfl, fun hlt => by rw [← decodeTag_of_lt hlt]; rfl⟩
    | some k =>
      obtain ⟨hk, rfl⟩ := hsome k himp
      have hval : (BitVec.ofNat 8 tag).toNat = tag := Nat.mod_eq_of_lt (by omega)
      refine ⟨fun i hi => ?_, fun hlt => absurd hk (Nat.not_le.2 hlt)⟩
      rw [← hval] at hi
      rw [← decodeTag_of_getElem? hi]
      rfl
  · obtain ⟨tag, hexec, hpred⟩ : ∃ tag, exec p.1 s = .next (pngRowWith tag s) ∧ pngPred tag = p.2 := by
      fin_cases hmem <;> exact ⟨_, rfl, rfl⟩
    have hlen := length_rowBytes hpos
    have hrow := pngDecodeRow_eq tag (bytesPerPixel s.j.desc) s.eng.pred.prevRow (rowBytes s)
    rw [hexec, pngRowWith, finishPngRow, finishRow_of_fits (by rw [hrow, length_decodedRow, hlen]) hcap]
    refine ⟨_, _, rfl, onlyCodec_setEng _ s, rfl, by rw [hrow, length_decodedRow, hlen], rfl, fun i hi => ?_⟩
    rw [← getD_rowBytes hi, ← hpred]
    exact getD_pngRow (hlen.symm ▸ hi) tag _ (bytesPerPixel_pos hcolors) hrow

/-- Settles O26: a comparison of the three distances (`paeth_eq`). -/
theorem paethPicksTheClosest : Obligations.PaethPicksTheClosest := by
  unfold Obligations.PaethPicksTheClosest
  intro a b c d
  have hpaeth : paeth a b c = if d a ≤ d b ∧ d a ≤ d c then a else if d b ≤ d c then b else c := paeth_eq a b c
  by_cases hleft : d a ≤ d b ∧ d a ≤ d c
  · rw [hpaeth, if_pos hleft]
    exact ⟨.inl rfl, le_rfl, hleft.1, hleft.2, fun _ _ => rfl, fun h => absurd hleft h⟩
  · rw [hpaeth, if_neg hleft]
    by_cases hup : d b ≤ d c
    · rw [if_pos hup]
      exact ⟨.inr (.inl rfl), by omega, le_rfl, hup, fun hb hc => absurd ⟨hb, hc⟩ hleft, fun _ _ => rfl⟩
    · rw [if_neg hup]
      exact ⟨.inr (.inr rfl), by omega, by omega, le_rfl, fun hb hc => absurd ⟨hb, hc⟩ hleft,
        fun _ h => absurd h hup⟩

/-- Settles O27: each byte of the row comes from its left neighbour (`getD_tiffRow`). -/
theorem tiffRowAddsTheLeftNeighbour : Obligations.TiffRowAddsTheLeftNeighbour := by
  unfold Obligations.TiffRowAddsTheLeftNeighbour
  refine ⟨fun s => step_of_tiffRow, fun s => stageOver_of_rowsUsedUp (.inl rfl), fun s hcolors hpos hcap => ?_⟩
  have hlen := length_rowBytes hpos
  have hrow := tiffDecodeRow_eq (bytesPerPixel s.j.desc) (rowBytes s)
  have hexec : exec .tiffRow s =
    .next (finishRow (tiffDecodeRow (bytesPerPixel s.j.desc) [] (rowBytes s)) s.eng.pred s) := rfl
  rw [hexec, finishRow_of_fits (by rw [hrow, length_decodedRow, hlen]) hcap]
  refine ⟨_, _, rfl, onlyCodec_setEng _ s, rfl, by rw [hrow, length_decodedRow, hlen], rfl, fun i hi => ?_⟩
  rw [← getD_rowBytes hi]
  exact getD_tiffRow (hlen.symm ▸ hi) (bytesPerPixel_pos hcolors) hrow

end

section
/-! What a step of a CCITT_DECODE job can do, said once (`FaxActs`): it goes on inside the fax engine, which keeps the
rows in order (R353), or it ends the job with a bitmap (R351). BLACK_IS_1 is read by `finishBitmap` only, so the job
with the flag set takes the same steps (R363). -/

namespace Sys2Proof.Machine

open Sys2Proof

variable {s t u u' : State} {columns : Nat} {rows : List (List Nat)} {ref row : List Nat}

/-! ## The rows of the fax engine -/

/-- The rows done and the reference line are in order (R353). -/
structure DoneWf (columns : Nat) (rows : List (List Nat)) (ref : List Nat) : Prop where
  rows : ∀ r ∈ rows, rowWf columns r
  ref : rowWf columns ref

/-- A row in progress is in order, and the current position has passed it (R398, R399). -/
structure PartWf (columns : Nat) (row : List Nat) (pos : Int) : Prop where
  wf : rowWf columns row
  le : pos ≤ columns
  passed : ∀ x ∈ row, (x : Int) ≤ pos

theorem rowWf_nil (columns : Nat) : rowWf columns [] := ⟨.nil, nofun⟩

theorem doneWf_nil (columns : Nat) : DoneWf columns [] [] := ⟨nofun, rowWf_nil columns⟩

/-- A row in order that is done becomes the reference line (R383). -/
theorem DoneWf.rowDone (h : DoneWf columns rows ref) (hrow : rowWf columns row) :
    DoneWf columns (rows ++ [row]) row where
  rows x hx := (List.mem_append.1 hx).elim (h.rows x) fun hx => List.mem_singleton.1 hx ▸ hrow
  ref := hrow

theorem partWf_nil {pos : Int} (h : pos ≤ columns) : PartWf columns [] pos := ⟨rowWf_nil columns, h, nofun⟩

/-- The position may move on to the width. -/
theorem PartWf.move {pos pos' : Int} (h : PartWf columns row pos) (hle : pos ≤ pos') (hle' : pos' ≤ columns) :
    PartWf columns row pos' := ⟨h.wf, hle', fun x hx => (h.passed x hx).trans hle⟩

/-- A transition at the position keeps the row in order. -/
theorem PartWf.append {x : Nat} (h : PartWf columns row x) : PartWf columns (row ++ [x]) x := by
  obtain ⟨⟨hsorted, hle⟩, hx, hpassed⟩ := h
  have hthrough : ∀ y ∈ row ++ [x], y ≤ x := fun y hy =>
    (List.mem_append.1 hy).elim (fun hy => Int.ofNat_le.1 (hpassed y hy)) fun hy => (List.mem_singleton.1 hy).le
  refine ⟨⟨List.pairwise_append.2 ⟨hsorted, List.pairwise_singleton _ x, fun y hy z hz => ?_⟩, fun y hy => ?_⟩,
    hx, fun y hy => Int.ofNat_le.2 (hthrough y hy)⟩
  · exact List.mem_singleton.1 hz ▸ Int.ofNat_le.1 (hpassed y hy)
  · exact (hthrough y hy).trans (Int.ofNat_le.1 hx)

/-- `b2` is not before `A0` and not beyond the width (R397). -/
theorem findBFrom_snd_bounds {a0 : Int} (ha0 : a0 ≤ columns) (colour : Colour) (href : rowWf columns ref) (i : Nat) :
    a0 ≤ (findBFrom columns a0 colour i ref).2 ∧ (findBFrom columns a0 colour i ref).2 ≤ columns := by
  induction ref generalizing i with
  | nil => exact ⟨ha0, le_rfl⟩
  | cons r rs ih =>
    obtain ⟨hsorted, hle⟩ := href
    obtain ⟨hr, hrs⟩ := List.pairwise_cons.1 hsorted
    unfold findBFrom
    split
    next hhit =>
      cases rs with
      | nil => exact ⟨ha0, le_rfl⟩
      | cons b2 rest =>
        have hb2 : r ≤ b2 := hr b2 (List.mem_cons_self ..)
        exact ⟨by simp only [List.headD_cons]; omega, hle b2 (by simp)⟩
    next => exact ih ⟨hrs, fun x hx => hle x (List.mem_cons_of_mem r hx)⟩ (i + 1)

/-! ## The invariant, phase by phase -/

/-- The rows done of the fax engine are in order. -/
def doneWf (s : State) : Prop := DoneWf (faxColumns s) s.eng.fax.rowsDone s.eng.fax.ref

/-- The two-dimensional row in progress is in order up to `A0`. -/
def row2DWf (s : State) : Prop := PartWf (faxColumns s) s.eng.fax.t s.eng.fax.a0

/-- The one-dimensional row in progress is in order up to `POS`. -/
def row1DWf (s : State) : Prop := PartWf (faxColumns s) s.eng.fax.t s.eng.fax.pos

theorem faxWf_iff (s : State) : faxWf s ↔
    doneWf s ∧ (s.phase = .faxMode ∨ (s.phase = .faxRun ∧ s.eng.fax.use ≠ .row1d) → row2DWf s) ∧
      (∀ a1, s.phase = .faxRun → s.eng.fax.use = .horiz2 a1 → s.eng.fax.a0 ≤ a1) ∧
      (s.phase = .faxRun → s.eng.fax.use = .row1d → row1DWf s) := by
  constructor
  · intro ⟨hdone, href, h2d, ha1, h1d⟩
    refine ⟨⟨hdone, href⟩, fun hp => ?_, ha1, fun hp hu => ?_⟩
    · obtain ⟨hrow, hle, hpassed⟩ := h2d hp
      exact ⟨hrow, hle, hpassed⟩
    · obtain ⟨hrow, hle, hpassed⟩ := h1d hp hu
      exact ⟨hrow, Int.ofNat_le.2 hle, fun x hx => Int.ofNat_le.2 (hpassed x hx)⟩
  · intro ⟨⟨hdone, href⟩, h2d, ha1, h1d⟩
    exact ⟨hdone, href, fun hp => ⟨(h2d hp).wf, (h2d hp).le, (h2d hp).passed⟩, ha1, fun hp hu =>
      ⟨(h1d hp hu).wf, Int.ofNat_le.1 (h1d hp hu).le, fun x hx => Int.ofNat_le.1 ((h1d hp hu).passed x hx)⟩⟩

theorem doneWf_of_faxWf (h : faxWf s) : doneWf s := ((faxWf_iff s).1 h).1

theorem row2DWf_of_faxMode (hp : s.phase = .faxMode) (h : faxWf s) : row2DWf s := ((faxWf_iff s).1 h).2.1 (.inl hp)

theorem row2DWf_of_faxRun (hp : s.phase = .faxRun) (hu : s.eng.fax.use ≠ .row1d) (h : faxWf s) : row2DWf s :=
  ((faxWf_iff s).1 h).2.1 (.inr ⟨hp, hu⟩)

theorem a0_le_of_horiz2 {a1 : Nat} (hp : s.phase = .faxRun) (hu : s.eng.fax.use = .horiz2 a1) (h : faxWf s) :
    s.eng.fax.a0 ≤ a1 := ((faxWf_iff s).1 h).2.2.1 a1 hp hu

theorem row1DWf_of_faxRun (hp : s.phase = .faxRun) (hu : s.eng.fax.use = .row1d) (h : faxWf s) : row1DWf s :=
  ((faxWf_iff s).1 h).2.2.2 hp hu

/-- Outside a row the invariant speaks of the rows done only. -/
theorem faxWf_of_noRow (hmode : s.phase ≠ .faxMode) (hrun : s.phase ≠ .faxRun) (h : doneWf s) : faxWf s :=
  (faxWf_iff s).2 ⟨h, fun hp => absurd hp (by simp [hmode, hrun]), fun _ hp => absurd hp hrun,
    fun hp => absurd hp hrun⟩

theorem faxWf_of_faxMode (hp : s.phase = .faxMode) (h : doneWf s) (hrow : row2DWf s) : faxWf s :=
  (faxWf_iff s).2 ⟨h, fun _ => hrow, fun _ hp' => by simp [hp] at hp', fun hp' => by simp [hp] at hp'⟩

theorem faxWf_of_row1d (hp : s.phase = .faxRun) (hu : s.eng.fax.use = .row1d) (h : doneWf s) (hrow : row1DWf s) :
    faxWf s :=
  (faxWf_iff s).2 ⟨h, fun hp' => by simp [hp, hu] at hp', fun _ _ hu' => by simp [hu] at hu', fun _ _ => hrow⟩

theorem faxWf_of_horiz (hu : s.eng.fax.use ≠ .row1d) (h : doneWf s) (hrow : row2DWf s)
    (ha1 : ∀ a1, s.eng.fax.use = .horiz2 a1 → s.eng.fax.a0 ≤ a1) : faxWf s :=
  (faxWf_iff s).2 ⟨h, fun _ => hrow, fun a1 _ => ha1 a1, fun _ hu' => absurd hu' hu⟩

/-! ## BLACK_IS_1 -/

/-- Setting BLACK_IS_1 leaves the other flags. -/
theorem getLsbD_or_two (x : BitVec 5) {i : Nat} (hi : i ≠ 1) : (x ||| 2).getLsbD i = x.getLsbD i := by
  have h : (2 : BitVec 5).getLsbD i = false := by
    show Nat.testBit (2 ^ 1) i = false
    exact Nat.testBit_two_pow_of_ne (Ne.symm hi)
  rw [BitVec.getLsbD_or, h, Bool.or_false]

@[simp] theorem blackIs1_withBlackIs1 (s : State) : blackIs1 (withBlackIs1 s).j.desc = true := by
  show (s.j.desc.cFlags ||| 2).getLsbD 1 = true
  rw [BitVec.getLsbD_or, show (2 : BitVec 5).getLsbD 1 = true from rfl, Bool.or_true]

@[simp] theorem ccittRows_withBlackIs1 (s : State) : ccittRows (withBlackIs1 s).j.desc = ccittRows s.j.desc := by
  show (if (s.j.desc.cFlags ||| 2).getLsbD 0 then _ else _) = _
  rw [getLsbD_or_two _ (by decide)]
  rfl

@[simp] theorem endOfLine_withBlackIs1 (s : State) : endOfLine (withBlackIs1 s).j.desc = endOfLine s.j.desc :=
  getLsbD_or_two _ (by decide)

@[simp] theorem byteAlign_withBlackIs1 (s : State) : byteAlign (withBlackIs1 s).j.desc = byteAlign s.j.desc :=
  getLsbD_or_two _ (by decide)

@[simp] theorem announced_withBlackIs1 (s : State) : announced (withBlackIs1 s) = announced s :=
  congrArg (· || readsTags s.cfg s.j.desc) (endOfLine_withBlackIs1 s)

@[simp] theorem rowsComplete_withBlackIs1 (s : State) : rowsComplete (withBlackIs1 s) = rowsComplete s := by
  unfold rowsComplete
  rw [ccittRows_withBlackIs1]
  rfl

@[simp] theorem faxParams_withBlackIs1 (s : State) : faxParams (withBlackIs1 s).j.desc = faxParams s.j.desc := by
  have heob : (withBlackIs1 s).j.desc.cFlags.getLsbD 4 = s.j.desc.cFlags.getLsbD 4 := getLsbD_or_two _ (by decide)
  simp only [faxParams, ccittRows_withBlackIs1, endOfLine_withBlackIs1, byteAlign_withBlackIs1, heob]
  rfl

/-! ## What the fax engine does -/

/-- What the fax engine makes of the state `s` of a CCITT_DECODE job, and of the same job with BLACK_IS_1: both go on
and are the same but for the flag, or both end with the same bitmap before inversion. -/
inductive FaxActs (s : State) : State → State → Prop
  | goesOn {t : State} (ht : Inner .fax s t) (hwf : faxWf s → faxWf t) : FaxActs s t (withBlackIs1 t)
  | finishes (bm : Bytes) {t : State} (ht : Inner .fax s t) :
      FaxActs s (finishBitmap bm t) (finishBitmap bm (withBlackIs1 t))

/-- A fax engine that acts after an inner change acts. -/
theorem FaxActs.after (ht : Inner .fax s t) (hwf : faxWf s → faxWf t) (h : FaxActs t u u') : FaxActs s u u' := by
  cases h with
  | goesOn ht' hwf' => exact .goesOn (ht.trans ht') (hwf' ∘ hwf)
  | finishes bm ht' => exact .finishes bm (ht.trans ht')

/-- A choice by a condition that BLACK_IS_1 does not change. -/
theorem FaxActs.ite (c : Prop) [Decidable c] {a b a' b' : State} (ha : c → FaxActs s a a')
    (hb : ¬ c → FaxActs s b b') : FaxActs s (if c then a else b) (if c then a' else b') := by
  by_cases hc : c
  · simpa only [if_pos hc] using ha hc
  · simpa only [if_neg hc] using hb hc

/-- The registers change and the sequencer goes to another place. -/
theorem FaxActs.goto {p : Phase} (hp : inFax p = true) (ht : Inner .fax s t) (hwf : faxWf s → faxWf (goto p t)) :
    FaxActs s (goto p t) (goto p (withBlackIs1 t)) := .goesOn (ht.trans (inner_goto hp)) hwf

/-! ### The ends of an attempt and of a row -/

theorem finishRows_faxActs (ht : Inner .fax s t) (trs : List (List Nat)) :
    FaxActs s (finishRows trs t) (finishRows trs (withBlackIs1 t)) := by
  unfold finishRows
  rw [ccittRows_withBlackIs1]
  exact .finishes _ ht

/-- The end of an attempt: the rows, the retry with no row done, or white (R355 to R357). -/
theorem attemptEnd_faxActs (ht : Inner .fax s t) (trs : List (List Nat)) :
    FaxActs s (attemptEnd trs t) (attemptEnd trs (withBlackIs1 t)) :=
  .ite (trs = [])
    (fun _ => .ite (t.eng.fax.attempt = 1)
      (fun _ => .goto rfl (ht.trans (inner_setCcittRetry.trans (inner_setFax fun _ => FaxRegs.init 2)))
        fun _ => faxWf_of_noRow nofun nofun (doneWf_nil _))
      fun _ => finishRows_faxActs (ht.trans inner_setCcittWhite) [])
    fun _ => finishRows_faxActs ht trs

theorem faxStop_faxActs (ht : Inner .fax s t) : FaxActs s (faxStop t) (faxStop (withBlackIs1 t)) :=
  attemptEnd_faxActs ht t.eng.fax.rowsDone

/-- A row that is in order becomes the reference line (R383). -/
theorem rowDone_faxActs (ht : Inner .fax s t) (hdone : faxWf s → doneWf t) (hrow : faxWf s → rowWf (faxColumns t) row) :
    FaxActs s (rowDone row t) (rowDone row (withBlackIs1 t)) :=
  .goto rfl (ht.trans (inner_setFax fun f => { f with rowsDone := f.rowsDone ++ [row], ref := row })) fun hs =>
    faxWf_of_noRow nofun nofun ((hdone hs).rowDone (hrow hs))

theorem continue2D_faxActs (ht : Inner .fax s t) (hdone : faxWf s → doneWf t) (hrow : faxWf s → row2DWf t) :
    FaxActs s (continue2D t) (continue2D (withBlackIs1 t)) :=
  .ite (t.eng.fax.a0 < (faxColumns t : Int))
    (fun _ => .goto rfl ht fun hs => faxWf_of_faxMode rfl (hdone hs) (hrow hs))
    fun _ => rowDone_faxActs ht hdone fun hs => (hrow hs).wf

/-! ### Two-dimensional modes -/

/-- A vertical mode places its transition between `A0` and the width (R396). -/
theorem vertical_faxActs (hp : s.phase = .faxMode) (d : Int) :
    FaxActs s (vertical d s) (vertical d (withBlackIs1 s)) := by
  refine .ite ((faxColumns s : Int) < (findB (faxColumns s) s.eng.fax).1 + d ∨
      ((findB (faxColumns s) s.eng.fax).1 : Int) + d < (a0Pos s.eng.fax : Int))
    (fun _ => faxStop_faxActs (.refl _ s)) fun hc =>
      continue2D_faxActs (inner_setFax _) doneWf_of_faxWf fun hs => ?_
  obtain ⟨a1, ha1⟩ : ∃ a1 : Nat, ((findB (faxColumns s) s.eng.fax).1 : Int) + d = a1 :=
    Int.eq_ofNat_of_zero_le (by omega)
  have hmove : PartWf (faxColumns s) s.eng.fax.t a1 :=
    (row2DWf_of_faxMode hp hs).move (by unfold a0Pos at hc; omega) (by omega)
  show PartWf (faxColumns s) (s.eng.fax.t ++ [Int.toNat _]) _
  rw [ha1]
  exact hmove.append

/-- `HORIZ`: the first run begins at `A0` (R395). -/
theorem faxHoriz_faxActs (hp : s.phase = .faxMode) :
    FaxActs s (goto .faxRun (setFax (fun f => { f with use := .horiz1, total := 0 }) s))
      (goto .faxRun (setFax (fun f => { f with use := .horiz1, total := 0 }) (withBlackIs1 s))) :=
  .goto rfl (inner_setFax fun f => { f with use := .horiz1, total := 0 }) fun hs =>
    have hdone : doneWf s := doneWf_of_faxWf hs
    have hrow : row2DWf s := row2DWf_of_faxMode hp hs
    faxWf_of_horiz nofun hdone hrow nofun

/-- `PASS` moves `A0` to `b2`, which is not before it (R394). -/
theorem faxPass_faxActs (hp : s.phase = .faxMode) :
    FaxActs s (continue2D (setFax (fun f => { f with a0 := ((findB (faxColumns s) f).2 : Int) }) s))
      (continue2D (setFax (fun f => { f with a0 := ((findB (faxColumns s) f).2 : Int) }) (withBlackIs1 s))) :=
  continue2D_faxActs (inner_setFax fun f => { f with a0 := ((findB (faxColumns s) f).2 : Int) }) doneWf_of_faxWf
    fun hs =>
      have hrow := row2DWf_of_faxMode hp hs
      have hb2 := findBFrom_snd_bounds hrow.le s.eng.fax.colour (doneWf_of_faxWf hs).ref 0
      hrow.move hb2.1 (Int.ofNat_le.2 hb2.2)

/-! ### Run lengths -/

theorem makeUp_faxActs (n : Nat) (s : State) : FaxActs s (makeUp n s) (makeUp n (withBlackIs1 s)) :=
  .goesOn (inner_setFax fun f => { f with total := f.total + n }) id

/-- A run of a one-dimensional row ends at a transition, at the width, or beyond it (R398). -/
theorem runComplete_row1d_faxActs (hp : s.phase = .faxRun) (hu : s.eng.fax.use = .row1d) (run : Nat) :
    FaxActs s (runComplete run s) (runComplete run (withBlackIs1 s)) := by
  have hrow (hle : s.eng.fax.pos + run ≤ faxColumns s) (hs : faxWf s) :
      PartWf (faxColumns s) (s.eng.fax.t ++ [s.eng.fax.pos + run]) (s.eng.fax.pos + run : Nat) :=
    ((row1DWf_of_faxRun hp hu hs).move (by omega) (Int.ofNat_le.2 hle)).append
  unfold runComplete
  rw [show (withBlackIs1 s).eng.fax.use = .row1d from hu, hu]
  exact .ite (faxColumns s < s.eng.fax.pos + run) (fun _ => faxStop_faxActs (.refl _ s)) fun hle =>
    .ite (s.eng.fax.pos + run < faxColumns s)
      (fun hlt => .goto rfl (inner_setFax _) fun hs =>
        have hdone : doneWf s := doneWf_of_faxWf hs
        faxWf_of_row1d rfl hu hdone (hrow (Nat.le_of_lt hlt) hs))
      fun _ => rowDone_faxActs (.refl _ s) doneWf_of_faxWf fun hs => (hrow (Nat.not_lt.1 hle) hs).wf

/-- The first run of HORIZ gives `a1`, which is not before `A0` (R395). -/
theorem runComplete_horiz1_faxActs (hp : s.phase = .faxRun) (hu : s.eng.fax.use = .horiz1) (run : Nat) :
    FaxActs s (runComplete run s) (runComplete run (withBlackIs1 s)) := by
  unfold runComplete
  rw [show (withBlackIs1 s).eng.fax.use = .horiz1 from hu, hu]
  refine .goto rfl (inner_setFax _) fun hs => ?_
  have hdone : doneWf s := doneWf_of_faxWf hs
  have hrow : row2DWf s := row2DWf_of_faxRun hp (by simp [hu]) hs
  refine faxWf_of_horiz nofun hdone hrow fun a1 ha1 => ?_
  cases ha1
  show s.eng.fax.a0 ≤ ((s.eng.fax.a0.toNat + run : Nat) : Int)
  omega

/-- The second run of HORIZ gives the transitions `a1` and `a2` (R395). -/
theorem runComplete_horiz2_faxActs {a1 : Nat} (hp : s.phase = .faxRun) (hu : s.eng.fax.use = .horiz2 a1) (run : Nat) :
    FaxActs s (runComplete run s) (runComplete run (withBlackIs1 s)) := by
  unfold runComplete
  rw [show (withBlackIs1 s).eng.fax.use = .horiz2 a1 from hu, hu]
  refine .ite (faxColumns s < a1 + run) (fun _ => faxStop_faxActs (.refl _ s)) fun hle =>
    continue2D_faxActs (inner_setFax _) doneWf_of_faxWf fun hs => ?_
  have hfirst : PartWf (faxColumns s) (s.eng.fax.t ++ [a1]) a1 :=
    ((row2DWf_of_faxRun hp (by simp [hu]) hs).move (a0_le_of_horiz2 hp hu hs) (by omega)).append
  have hsecond : PartWf (faxColumns s) (s.eng.fax.t ++ [a1] ++ [a1 + run]) (a1 + run : Nat) :=
    (hfirst.move (by omega) (by omega)).append
  rwa [List.append_assoc] at hsecond

theorem terminating_faxActs (hp : s.phase = .faxRun) (n : Nat) :
    FaxActs s (terminating n s) (terminating n (withBlackIs1 s)) := by
  unfold terminating
  cases hu : s.eng.fax.use with
  | row1d => exact runComplete_row1d_faxActs hp hu _
  | horiz1 => exact runComplete_horiz1_faxActs hp hu _
  | horiz2 a1 => exact runComplete_horiz2_faxActs hp hu _

/-! ### The beginning of an attempt and of a row -/

theorem beginRow1D_faxActs (ht : Inner .fax s t) (hdone : faxWf s → doneWf t) :
    FaxActs s (beginRow1D t) (beginRow1D (withBlackIs1 t)) :=
  .goto rfl (ht.trans (inner_setFax fun f =>
      { f with t := [], pos := 0, colour := .white, total := 0, use := .row1d })) fun hs =>
    faxWf_of_row1d rfl rfl (hdone hs) (partWf_nil (Int.natCast_nonneg _))

theorem beginRow2D_faxActs (ht : Inner .fax s t) (hdone : faxWf s → doneWf t) :
    FaxActs s (beginRow2D t) (beginRow2D (withBlackIs1 t)) :=
  .goto rfl (ht.trans (inner_setFax fun f => { f with t := [], a0 := -1, colour := .white })) fun hs =>
    faxWf_of_faxMode rfl (hdone hs) (partWf_nil (show (-1 : Int) ≤ faxColumns t by omega))

/-- The beginning of an attempt: the end at once, or the reference engine with no row done (R351 to R355). -/
theorem beginAttempt_faxActs (s : State) : FaxActs s (beginAttempt s) (beginAttempt (withBlackIs1 s)) := by
  unfold beginAttempt
  rw [faxParams_withBlackIs1]
  exact .ite (faxColumns s = 0) (fun _ => .finishes [] inner_setCcittWhite) fun _ =>
    .ite (s.cfg.faxEngineReplaced = true) (fun _ => attemptEnd_faxActs (.refl _ s) _) fun _ =>
      .goto rfl (t := { s with
          eng := { Engine.empty with src := attemptInput s, fax := FaxRegs.init s.eng.fax.attempt } })
        ⟨rfl, .inr rfl, fun _ => groupWf_empty, fun _ => .inr rfl, fun h => absurd rfl h⟩
        fun _ => faxWf_of_noRow nofun nofun (doneWf_nil _)

theorem beginRow_faxActs (s : State) : FaxActs s (beginRow s) (beginRow (withBlackIs1 s)) := by
  have heol {t : State} (ht : Inner .fax s t) (hdone : faxWf s → doneWf t) :
      FaxActs s (goto .faxEol (setFax (fun f => { f with eols := 0 }) t))
        (goto .faxEol (setFax (fun f => { f with eols := 0 }) (withBlackIs1 t))) :=
    .goto rfl (ht.trans (inner_setFax _)) fun hs => faxWf_of_noRow nofun nofun (hdone hs)
  have hgroup : isGroup4 (withBlackIs1 s).j.desc = isGroup4 s.j.desc := rfl
  unfold beginRow
  rw [rowsComplete_withBlackIs1, byteAlign_withBlackIs1, announced_withBlackIs1, hgroup]
  refine .ite (rowsComplete s = true) (fun _ => attemptEnd_faxActs (.refl _ s) s.eng.fax.rowsDone) fun _ => ?_
  by_cases hc : (byteAlign s.j.desc && (isGroup4 s.j.desc || !announced s)) = true
  · rw [if_pos hc, if_pos hc]
    exact heol inner_alignBits doneWf_of_faxWf
  · rw [if_neg hc, if_neg hc]
    exact heol (.refl _ s) doneWf_of_faxWf

/-- The row itself: the tag, where it is read, says which kind it is (R385). -/
theorem beginRowBody_faxActs (s : State) : FaxActs s (beginRowBody s) (beginRowBody (withBlackIs1 s)) := by
  have hfirst : Inner .fax s (setFax (fun f => { f with first := false }) s) := inner_setFax _
  have hbits : restM (withBlackIs1 s) = restM s := rfl
  unfold beginRowBody
  rw [hbits]
  refine .ite (readsTags s.cfg s.j.desc = true) (fun _ => ?_) fun _ => beginRow1D_faxActs hfirst doneWf_of_faxWf
  cases fieldM 1 (restM s) with
  | none => exact faxStop_faxActs hfirst
  | some tag =>
    have htag := hfirst.trans (inner_bitPos (s.eng.bitPos + 1))
    exact .ite (tag = 1) (fun _ => beginRow1D_faxActs htag doneWf_of_faxWf) fun _ =>
      beginRow2D_faxActs htag doneWf_of_faxWf

theorem eolsDone_faxActs (s : State) : FaxActs s (eolsDone s) (eolsDone (withBlackIs1 s)) := by
  have hend : FaxActs s (attemptEnd s.eng.fax.rowsDone s) (attemptEnd s.eng.fax.rowsDone (withBlackIs1 s)) :=
    attemptEnd_faxActs (.refl _ s) _
  unfold eolsDone
  rw [announced_withBlackIs1, endOfLine_withBlackIs1]
  exact .ite (isGroup4 s.j.desc = true)
    (fun _ => .ite (atEnd s = true) (fun _ => hend) fun _ => beginRow2D_faxActs (.refl _ s) doneWf_of_faxWf) fun _ =>
    .ite ((announced s && endOfLine s.j.desc && decide (s.eng.fax.eols = 0) && !s.eng.fax.first) = true)
      (fun _ => faxStop_faxActs (.refl _ s)) fun _ =>
      .ite (2 ≤ s.eng.fax.eols) (fun _ => hend) fun _ =>
        .ite (atEnd s = true) (fun _ => hend) fun _ => beginRowBody_faxActs s

/-! ## The fax codes -/

theorem exec_verticalModes : ∀ p ∈ verticalModes, ∀ s, exec p.1 s = .next (vertical p.2 s) := by
  simp only [verticalModes, List.forall_mem_cons, List.not_mem_nil, false_implies, implies_true,
    and_true]
  and_intros <;> exact fun _ => rfl

theorem exec_terminatingCodes : ∀ p ∈ terminatingCodes, ∀ s, exec p.1 s = .next (terminating p.2 s) := by
  simp only [terminatingCodes, List.forall_mem_append, List.forall_mem_cons, List.not_mem_nil,
    false_implies, implies_true, and_true]
  and_intros <;> exact fun _ => rfl

theorem exec_makeUpCodes : ∀ p ∈ makeUpCodes, ∀ s, exec p.1 s = .next (makeUp p.2 s) := by
  simp only [makeUpCodes, List.forall_mem_append, List.forall_mem_cons, List.not_mem_nil,
    false_implies, implies_true, and_true]
  and_intros <;> exact fun _ => rfl

theorem faxModeTab_instr : ∀ e ∈ faxModeTab,
    e.instr ∈ verticalModes.map Prod.fst ∨ e.instr = .faxHoriz ∨ e.instr = .faxPass := by decide

theorem faxRunTab_instr (c : Colour) : ∀ e ∈ faxRunTab c,
    e.instr ∈ terminatingCodes.map Prod.fst ∨ e.instr ∈ makeUpCodes.map Prod.fst := by
  cases c <;> decide +kernel

/-! ## A step of the fax engine -/

/-- An instruction or a step of the fax engine answers a next state, with BLACK_IS_1 and without, which is what the
engine does. -/
def FaxRuns (s : State) (x : State → Host.Outcome State Fault Refusal) : Prop :=
  ∃ t t', x s = .next t ∧ x (withBlackIs1 s) = .next t' ∧ FaxActs s t t'

theorem FaxActs.runs {r : State → State} {x : State → Host.Outcome State Fault Refusal}
    (h : FaxActs s (r s) (r (withBlackIs1 s))) (hx : ∀ s, x s = .next (r s)) : FaxRuns s x :=
  ⟨_, _, hx s, hx (withBlackIs1 s), h⟩

/-- An end-of-line code ends Group 4 data, and is counted in Group 3 data (R386, R392). -/
theorem exec_faxEol_faxRuns (fill : Nat) (s : State) : FaxRuns s (exec (.faxEol fill)) := by
  have hend : FaxActs s (attemptEnd s.eng.fax.rowsDone s) (attemptEnd s.eng.fax.rowsDone (withBlackIs1 s)) :=
    attemptEnd_faxActs (.refl _ s) _
  refine ⟨_, _, rfl, rfl, .ite (isGroup4 s.j.desc = true) (fun _ => hend) fun _ =>
    .goto rfl (inner_setFax fun f => { f with eols := f.eols + 1 }) fun hs => ?_⟩
  have hdone : doneWf s := doneWf_of_faxWf hs
  exact faxWf_of_noRow nofun nofun hdone

theorem exec_faxMode_faxRuns (hp : s.phase = .faxMode) : ∀ e ∈ faxModeTab, FaxRuns s (exec e.instr) := by
  intro e he
  obtain hmem | heq | heq := faxModeTab_instr e he
  · obtain ⟨p, hp', heq⟩ := List.mem_map.1 hmem
    exact heq ▸ (vertical_faxActs hp p.2).runs (exec_verticalModes p hp')
  · exact heq ▸ (faxHoriz_faxActs hp).runs fun _ => rfl
  · exact heq ▸ (faxPass_faxActs hp).runs fun _ => rfl

theorem exec_faxRun_faxRuns (hp : s.phase = .faxRun) (c : Colour) : ∀ e ∈ faxRunTab c, FaxRuns s (exec e.instr) := by
  intro e he
  obtain hmem | hmem := faxRunTab_instr c e he
  · obtain ⟨p, hp', heq⟩ := List.mem_map.1 hmem
    exact heq ▸ (terminating_faxActs hp p.2).runs (exec_terminatingCodes p hp')
  · obtain ⟨p, hp', heq⟩ := List.mem_map.1 hmem
    exact heq ▸ (makeUp_faxActs p.2 s).runs (exec_makeUpCodes p hp')

theorem faxStop_faxRuns {i : Instr} (hi : ∀ s, exec i s = .next (faxStop s)) : FaxRuns s (exec i) :=
  (faxStop_faxActs (.refl _ s)).runs hi

/-! ### The codes that the fax formats read -/

variable {p : Instr → Prop}

theorem readCode_faxLook_holds {tab : List FaxCode} (htab : ∀ e ∈ tab, p e.instr) {fuel l c n : Nat} {bs : List Bool}
    {i : Instr} (h : readCode (faxLook tab) fuel l c bs = .hit i n) : p i := by
  obtain ⟨l', c', hlook⟩ := readCode_mem _ _ _ _ _ _ _ h
  obtain ⟨e, he, rfl⟩ := faxLook_mem _ _ _ _ hlook
  exact htab e he

theorem decode_faxMode_holds (htab : ∀ e ∈ faxModeTab, p e.instr) (hillegal : ∀ x, p (.faxModeIllegal x))
    (bs : List Bool) : Decoded.Holds p (decode .faxMode bs) := by
  simp only [decode]
  split
  next h => exact readCode_faxLook_holds htab h
  next => exact hillegal _
  next => trivial

theorem decode_faxRun_holds {c : Colour} (htab : ∀ e ∈ faxRunTab c, p e.instr) (hillegal : ∀ x, p (.faxRunIllegal x))
    (bs : List Bool) : Decoded.Holds p (decode (.faxRun c) bs) := by
  simp only [decode]
  split
  next h => exact readCode_faxLook_holds htab h
  next => exact hillegal _
  next => trivial

theorem decode_faxEol_holds (strict : Bool) (h : ∀ fill, p (.faxEol fill)) (bs : List Bool) :
    Decoded.Holds p (decode (.faxEol strict) bs) := by
  simp only [decode]
  repeat' split
  · trivial
  · exact h _
  · trivial

/-! ### The step -/

theorem advance_withBlackIs1 (f : Format) (n : Nat) (s : State) :
    advance f n (withBlackIs1 s) = withBlackIs1 (advance f n s) := by cases f <;> rfl

/-- The cursor is no part of the rows. -/
theorem faxWf_advance (f : Format) (n : Nat) (h : faxWf s) : faxWf (advance f n s) := by cases f <;> exact h

theorem phase_advance (f : Format) (n : Nat) (s : State) : (advance f n s).phase = s.phase := by cases f <;> rfl

/-- What is wanted does not depend on BLACK_IS_1, so that both jobs read the same code. -/
theorem want_withBlackIs1 (s : State) : want (withBlackIs1 s) = want s := rfl

theorem blockStep_faxRuns_of_event {e : Event} (hp : s.phase ≠ .lzw) (hw : want s = .event e)
    (h : FaxActs s (handleEvent e s) (handleEvent e (withBlackIs1 s))) : FaxRuns s blockStep := by
  refine ⟨_, _, ?_, ?_, h⟩
  · simp only [blockStep, prepare_of_ne hp, hw]
  · simp only [blockStep, prepare_of_ne (s := withBlackIs1 s) hp, want_withBlackIs1, hw]

/-- Where a code is read, the step is the instruction on the state past it, or what is done without one. -/
theorem blockStep_faxRuns_of_code {f : Format} {bs : List Bool} (hp : s.phase ≠ .lzw) (hw : want s = .code f bs)
    (hinstr : Decoded.Holds (fun i => ∀ n, FaxRuns (advance f n s) (exec i)) (decode f bs))
    (hreject : ∀ r, FaxActs s (handleReject r s) (handleReject r (withBlackIs1 s))) : FaxRuns s blockStep := by
  have hp' : (withBlackIs1 s).phase ≠ .lzw := hp
  cases hd : decode f bs with
  | instr i n =>
    rw [hd] at hinstr
    obtain ⟨t, t', ht, ht', hacts⟩ := hinstr n
    refine ⟨t, t', ?_, ?_, hacts.after (inner_advance f n s) (faxWf_advance f n)⟩
    · simp only [blockStep, prepare_of_ne hp, hw, hd, ht]
    · simp only [blockStep, prepare_of_ne hp', want_withBlackIs1, hw, hd, advance_withBlackIs1, ht']
  | reject r =>
    refine ⟨_, _, ?_, ?_, hreject r⟩
    · simp only [blockStep, prepare_of_ne hp, hw, hd]
    · simp only [blockStep, prepare_of_ne hp', want_withBlackIs1, hw, hd]

/-- The end of the input inside a row stops the attempt. -/
theorem handleReject_faxStop (hp : s.phase = .faxMode ∨ s.phase = .faxRun) (r : Reject) :
    handleReject r s = faxStop s := by
  obtain hp | hp := hp <;> simp only [handleReject, hp]

theorem handleReject_faxEol (hp : s.phase = .faxEol) (r : Reject) : handleReject r s = eolsDone s := by
  simp only [handleReject, hp]

theorem blockStep_faxRuns (hp : inFax s.phase = true) : FaxRuns s blockStep := by
  have hlzw : s.phase ≠ .lzw := fun h => by simp [h, inFax] at hp
  have hstop (hp : s.phase = .faxMode ∨ s.phase = .faxRun) (r : Reject) :
      FaxActs s (handleReject r s) (handleReject r (withBlackIs1 s)) := by
    rw [handleReject_faxStop hp, handleReject_faxStop (s := withBlackIs1 s) hp]
    exact faxStop_faxActs (.refl _ s)
  cases hphase : s.phase with
  | faxBegin =>
    exact blockStep_faxRuns_of_event hlzw (e := .faxBegin) (by simp only [want, hphase]) (beginAttempt_faxActs s)
  | faxRowStart =>
    exact blockStep_faxRuns_of_event hlzw (e := .faxRowStart) (by simp only [want, hphase]) (beginRow_faxActs s)
  | faxEol =>
    refine blockStep_faxRuns_of_code hlzw (f := .faxEol (isGroup4 s.j.desc)) (bs := restM s)
      (by simp only [want, hphase]) (decode_faxEol_holds _ (fun fill n => exec_faxEol_faxRuns fill _) _) fun r => ?_
    rw [handleReject_faxEol hphase, handleReject_faxEol (s := withBlackIs1 s) hphase]
    exact eolsDone_faxActs s
  | faxMode =>
    exact blockStep_faxRuns_of_code hlzw (f := .faxMode) (bs := restM s) (by simp only [want, hphase])
      (decode_faxMode_holds (fun e he n => exec_faxMode_faxRuns ((phase_advance _ n s).trans hphase) e he)
        (fun _ _ => faxStop_faxRuns fun _ => rfl) _) (hstop (.inl hphase))
  | faxRun =>
    exact blockStep_faxRuns_of_code hlzw (f := .faxRun (runColour s.eng.fax)) (bs := restM s)
      (by simp only [want, hphase])
      (decode_faxRun_holds (fun e he n => exec_faxRun_faxRuns ((phase_advance _ n s).trans hphase) _ e he)
        (fun _ _ => faxStop_faxRuns fun _ => rfl) _) (hstop (.inr hphase))
  | _ => simp [hphase, inFax] at hp

/-- A step of a running CCITT_DECODE job is what the fax engine does. -/
theorem step_faxActs (hs : running s) (hp : inFax s.phase = true) (h : step s = .next t) :
    ∃ t', step (withBlackIs1 s) = .next t' ∧ FaxActs s t t' := by
  obtain ⟨t₀, t', ht, ht', hacts⟩ := blockStep_faxRuns hp
  rw [step_of_running hs, ht] at h
  cases h
  exact ⟨t', (step_of_running (s := withBlackIs1 s) hs).trans ht', hacts⟩

end Sys2Proof.Machine
end

section
/-! The invariant of the fax rows, and what BLACK_IS_1 changes. -/

namespace Sys2Proof.Machine

open Sys2Proof

variable {s t t' : State} {u : JobUnit}

/-! ## The invariant of the fax rows -/

/-- Where no codec runs and no row is begun, there are no rows. -/
theorem faxWf_of_initial (hmode : s.phase ≠ .faxMode) (hrun : s.phase ≠ .faxRun)
    (hfax : s.eng.fax = FaxRegs.init 1) : faxWf s :=
  faxWf_of_noRow hmode hrun (by rw [doneWf, hfax]; exact doneWf_nil _)

theorem faxWf_finishBitmap (bm : Bytes) (s : State) : faxWf (finishBitmap bm s) := by
  obtain ⟨-, h⟩ | ⟨-, h⟩ := finishBitmap_cases bm s <;> rw [h] <;> exact faxWf_of_initial nofun nofun rfl

theorem faxWf_of_faxActs (h : FaxActs s t t') (hs : faxWf s) : faxWf t := by
  cases h with
  | goesOn _ hwf => exact hwf hs
  | finishes bm => exact faxWf_finishBitmap bm _

theorem inFax_eq_false_of_inside {p : Phase} (hu : u ≠ .fax) (h : u.inside p = true) : inFax p = false := by
  cases u with
  | fax => exact absurd rfl hu
  | _ => cases p <;> first | rfl | cases h

theorem stepUnit_ne_fax (hp : inFax s.phase = false) : stepUnit s ≠ .fax := by
  unfold stepUnit
  cases h : s.phase with
  | orchestrate =>
    dsimp only
    split
    · nofun
    · split <;> nofun
  | faxBegin | faxRowStart | faxEol | faxMode | faxRun => simp [h, inFax] at hp
  | _ => nofun

/-- Outside the fax engine no unit writes its registers but to make them initial, and none begins a row. -/
theorem faxWf_of_unit (hp : inFax s.phase = false) (h : UnitResult (stepUnit s) s t) (hs : faxWf s) : faxWf t := by
  cases h with
  | advances | aborts | finishes => exact faxWf_of_initial nofun nofun rfl
  | stays ht =>
    have hu := stepUnit_ne_fax hp
    have hp' : inFax t.phase = false := ht.phase.elim (inFax_eq_false_of_inside hu) fun h => h ▸ hp
    have hmode : t.phase ≠ .faxMode := fun h => by simp [h, inFax] at hp'
    have hrun : t.phase ≠ .faxRun := fun h => by simp [h, inFax] at hp'
    obtain hfax | hfax := ht.regs.fax hu
    · have hcolumns : faxColumns t = faxColumns s := by rw [faxColumns, ht.jobKept.2.2.2]; rfl
      exact faxWf_of_noRow hmode hrun (by rw [doneWf, hfax, hcolumns]; exact doneWf_of_faxWf hs)
    · exact faxWf_of_initial hmode hrun hfax

theorem faxWf_startJob (op : Op) (hs : faxWf s) : faxWf (startJob op s) := by
  obtain ⟨_, h⟩ | ⟨_, t, rfl, ⟨_, h⟩ | ⟨_, h⟩⟩ := startJob_cases op s <;> rw [h]
  · exact hs
  · exact faxWf_of_initial nofun nofun rfl
  · cases op <;> exact faxWf_of_initial nofun nofun rfl

theorem faxWf_of_host (h : HostResult s t) (hs : faxWf s) : faxWf t := by
  cases h with
  | unchanged | writes | reads => exact hs
  | starts op => exact faxWf_startJob op hs
  | acknowledges =>
    obtain ⟨_, h⟩ | ⟨_, _, h⟩ := acknowledge_cases s <;> rw [h] <;> exact hs
  | stores sp => cases sp <;> exact hs
  | resets => exact faxWf_of_initial nofun nofun rfl

theorem faxWf_blockStep (hs : faxWf s) (h : blockStep s = .next t) : faxWf t := by
  cases hp : inFax s.phase with
  | true =>
    obtain ⟨t₀, t', ht, -, hacts⟩ := blockStep_faxRuns hp
    rw [ht] at h
    cases h
    exact faxWf_of_faxActs hacts hs
  | false => exact faxWf_of_unit hp (blockStep_result h) hs

/-! ## The end of a CCITT_DECODE job -/

theorem Inner.errorKept (h : Inner u s t) :
    t.status.eclass = s.status.eclass ∧ t.status.ecode = s.status.ecode ∧ t.status.estage = s.status.estage ∧
      t.status.efilt = s.status.efilt := by
  rw [h.eq]
  exact ⟨rfl, rfl, rfl, rfl⟩

/-- BLACK_IS_1 complements each byte of the bitmap (R361). -/
theorem getElem?_invertBitmap_true (bm : Bytes) (a : Nat) : (invertBitmap true bm)[a]? = bm[a]?.map (~~~ ·) := by
  have hxor : (fun b : Byte => b ^^^ 0xFF) = (~~~ ·) := funext fun _ => BitVec.xor_allOnes
  show (bm.map fun b => b ^^^ 0xFF)[a]? = _
  rw [hxor, List.getElem?_map]

theorem length_invertBitmap (b : Bool) (bm : Bytes) : (invertBitmap b bm).length = bm.length := by
  cases b <;> simp [invertBitmap]

/-- OUT_LEN reports at most the length of the result (R24). -/
theorem lt_length_of_lt_outLen {o : Bytes} {a : Nat} (ha : a < (finishJob o s).outLen.toNat) : a < o.length := by
  have hle : (lenWord s.cfg o.length).toNat ≤ o.length := by
    rw [lenWord, BitVec.toNat_ofNat]
    exact (Nat.mod_le _ _).trans (Nat.mod_le _ _)
  exact Nat.lt_of_lt_of_le ha hle

/-- What a host sees of a job that ended with a bitmap and of the same job with BLACK_IS_1 (R363). -/
def invertedResult (t t' : State) : Prop :=
  t.status.state ≠ .busy ∧ t'.status = t.status ∧ t'.outLen = t.outLen ∧
    ∀ a, a < t.outLen.toNat → ∃ b, readByte .out t.out a = some b ∧ readByte .out t'.out a = some (~~~b)

theorem finishBitmap_of_fits {bm : Bytes} (h : overCap s.cfg bm.length = false) :
    finishBitmap bm s = finishJob (invertBitmap (blackIs1 s.j.desc) bm) s := if_neg (by simp [h])

theorem invertedResult_finishBitmap (bm : Bytes) (hflag : blackIs1 s.j.desc = false) :
    invertedResult (finishBitmap bm s) (finishBitmap bm (withBlackIs1 s)) := by
  obtain ⟨hcap, h⟩ | ⟨hcap, h⟩ := finishBitmap_cases bm s
  · have h' : finishBitmap bm (withBlackIs1 s) = raiseCap 6 (withBlackIs1 s) := if_pos hcap
    rw [h, h']
    exact ⟨nofun, rfl, rfl, fun a ha => absurd ha (by simp [raiseCap])⟩
  · have h' : finishBitmap bm (withBlackIs1 s) = finishJob (invertBitmap true bm) (withBlackIs1 s) :=
      blackIs1_withBlackIs1 s ▸ finishBitmap_of_fits (s := withBlackIs1 s) hcap
    have hlen : (finishJob (invertBitmap true bm) (withBlackIs1 s)).outLen =
        (finishJob (invertBitmap false bm) s).outLen := by
      simp only [finishJob_outLen, length_invertBitmap]
      rfl
    rw [h, h', hflag]
    refine ⟨nofun, rfl, hlen, fun a ha => ?_⟩
    have hlt : a < bm.length := lt_length_of_lt_outLen ha
    rw [readByte_finishJob _ _ _ ha, readByte_finishJob _ _ _ (hlen ▸ ha), getElem?_invertBitmap_true]
    exact ⟨bm[a], List.getElem?_eq_getElem hlt, by rw [List.getElem?_eq_getElem hlt]; rfl⟩

end Sys2Proof.Machine

open Sys2Proof Sys2Proof.Machine

/-- Settles O17: the fax engine keeps the rows in order (`FaxActs`), and nothing else writes them but to empty them. -/
theorem faxRowsStayOrdered : Obligations.FaxRowsStayOrdered := by
  unfold Obligations.FaxRowsStayOrdered
  intro s t hs h
  rw [step_eq_hostMove] at h
  obtain ⟨-, -, hstep⟩ | hhost := hostMove_result _ h
  · exact faxWf_blockStep (s := dropMove s) hs hstep
  · exact faxWf_of_host (s := dropMove s) hhost hs

/-- Settles O58: both jobs take the same step (`FaxActs`), and `finishBitmap` alone reads the flag. -/
theorem blackIs1InvertsTheResult : Obligations.BlackIs1InvertsTheResult := by
  unfold Obligations.BlackIs1InvertsTheResult
  intro s t hs _ hp hflag h
  obtain ⟨t', ht', hacts⟩ := step_faxActs hs hp h
  refine ⟨t', ht', ?_⟩
  cases hacts with
  | goesOn ht => exact .inl ⟨ht.state.trans hs.2, rfl⟩
  | finishes bm ht =>
    obtain ⟨-, -, -, hj⟩ := ht.jobKept
    exact .inr (invertedResult_finishBitmap bm (by rw [hj]; exact hflag))

/-- Settles O59: the fax engine aborts at the capacity only (`finishBitmap`), and its steps keep the error fields. -/
theorem ccittDecodeNeverRaises : Obligations.CcittDecodeNeverRaises := by
  unfold Obligations.CcittDecodeNeverRaises
  intro s t hs _ hp hcap h
  obtain ⟨t', -, hacts⟩ := step_faxActs hs hp h
  cases hacts with
  | goesOn ht =>
    obtain ⟨hclass, hcode, hstage, hfilt⟩ := ht.errorKept
    obtain ⟨-, -, -, hj⟩ := ht.jobKept
    exact ⟨hclass, hcode, hstage, hfilt, hj, .inl ⟨ht.state.trans hs.2, ht.phase.elim id fun h => h ▸ hp⟩⟩
  | @finishes bm t₀ ht =>
    obtain ⟨hclass, hcode, hstage, hfilt⟩ := ht.errorKept
    obtain ⟨-, -, -, hj⟩ := ht.jobKept
    have hfits : overCap t₀.cfg bm.length = false := by rw [ht.hostKept.1, overCap, hcap]
    rw [finishBitmap_of_fits hfits]
    exact ⟨hclass, hcode, hstage, hfilt, hj, .inr rfl⟩

end

section
/-! The bitmap, pixel by pixel (R359), and its grayscale expansion (R360). -/

namespace Sys2Proof.Machine

open Sys2Proof

/-- A list of blocks of one length, indexed by block and place. -/
theorem getElem?_flatMap_blocks {α β : Type} {g : α → List β} {n : Nat} (l : List α)
    (hlen : ∀ x ∈ l, (g x).length = n) (k : Nat) {i : Nat} (hi : i < n) :
    (l.flatMap g)[k * n + i]? = l[k]?.bind fun x => (g x)[i]? := by
  induction l generalizing k with
  | nil => rfl
  | cons x xs ih =>
    have hx : (g x).length = n := hlen x (List.mem_cons_self ..)
    rw [List.flatMap_cons]
    cases k with
    | zero => rw [Nat.zero_mul, Nat.zero_add, List.getElem?_append_left (by omega)]; rfl
    | succ k =>
      rw [Nat.succ_mul, List.getElem?_append_right (by omega), hx, List.getElem?_cons_succ,
        ← ih (fun y hy => hlen y (List.mem_cons_of_mem x hy)) k]
      congr 1
      omega

theorem length_flatMap_blocks {α β : Type} {g : α → List β} {n : Nat} (l : List α)
    (hlen : ∀ x ∈ l, (g x).length = n) : (l.flatMap g).length = n * l.length := by
  rw [List.length_flatMap, List.map_congr_left hlen, List.map_const', List.sum_replicate, smul_eq_mul, Nat.mul_comm]

/-! ## Bitmaps -/

/-- Bit `7 - i` of the byte of eight bits is bit `i` from the front (R64). -/
theorem getLsbD_natM {bs : List Bool} (hlen : bs.length = 8) {i : Nat} (hi : i < 8) :
    bs[i]? = some ((BitVec.ofNat 8 (natM bs)).getLsbD (7 - i)) := by
  have hbits : bitsM 8 (natM bs) = bs := hlen ▸ bitsM_natM bs
  conv_lhs => rw [← hbits]
  rw [bitsM, List.getElem?_map, List.getElem?_range hi, BitVec.getLsbD_ofNat, Option.map_some,
    decide_eq_true (by omega : 7 - i < 8), Bool.true_and]

/-- A pixel lies in a black run from a transition of even index to the next, or to the width (R359). -/
def inBlackRun (columns x : Nat) (t : List Nat) : Prop :=
  ∃ k s, t[2 * k]? = some s ∧ min s columns ≤ x ∧ x < min (t.getD (2 * k + 1) columns) columns

theorem inBlackRun_cons_cons (columns x s e : Nat) (rest : List Nat) :
    inBlackRun columns x (s :: e :: rest) ↔
      (min s columns ≤ x ∧ x < min e columns) ∨ inBlackRun columns x rest := by
  constructor
  · rintro ⟨_ | k, s', hs, hle, hlt⟩
    · cases hs
      exact .inl ⟨hle, hlt⟩
    · exact .inr ⟨k, s', hs, hle, hlt⟩
  · rintro (⟨hle, hlt⟩ | ⟨k, s', hs, hle, hlt⟩)
    · exact ⟨0, s, rfl, hle, hlt⟩
    · exact ⟨k + 1, s', hs, hle, hlt⟩

theorem blackAt_iff_inBlackRun {columns x : Nat} (hx : x < columns) :
    ∀ t : List Nat, blackAt columns x t = true ↔ inBlackRun columns x t
  | [] => by simp [blackAt, inBlackRun]
  | [s] => by
    constructor
    · exact fun h => ⟨0, s, rfl, of_decide_eq_true h, by simpa using hx⟩
    · rintro ⟨_ | k, s', hs, hle, -⟩
      · cases hs
        exact decide_eq_true hle
      · cases hs
  | s :: e :: rest => by
    rw [inBlackRun_cons_cons, ← blackAt_iff_inBlackRun hx rest]
    simp [blackAt]

/-- A bit of a bitmap byte: its pixel where it lies in the width, else padding (R359). -/
theorem getLsbD_bitmapByte (columns : Nat) (t : List Nat) (x : Nat) :
    (bitmapByte columns t (x / 8)).getLsbD (7 - x % 8) = true ↔ x < columns ∧ inBlackRun columns x t := by
  have hi : x % 8 < 8 := Nat.mod_lt x (by decide)
  have hbit := getLsbD_natM (bs := (List.range 8).map fun i =>
    decide (8 * (x / 8) + i < columns) && blackAt columns (8 * (x / 8) + i) t) (by simp) hi
  rw [List.getElem?_map, List.getElem?_range hi, Option.map_some, Nat.div_add_mod, Option.some_inj] at hbit
  rw [bitmapByte, ← hbit, Bool.and_eq_true, decide_eq_true_iff]
  exact and_congr_right fun hx => blackAt_iff_inBlackRun hx t

theorem length_rowsToBitmap (trs : List (List Nat)) (columns nrows : Nat) :
    (rowsToBitmap trs columns nrows).length = bitmapStride columns * nrows := by
  rw [rowsToBitmap, length_flatMap_blocks (n := bitmapStride columns) _ (fun _ _ => by simp), List.length_range]

/-- Byte `k` of row `r` stands at `stride · r + k` (R64). -/
theorem getElem?_rowsToBitmap (trs : List (List Nat)) {columns nrows r k : Nat} (hr : r < nrows)
    (hk : k < bitmapStride columns) :
    (rowsToBitmap trs columns nrows)[r * bitmapStride columns + k]? =
      some (bitmapByte columns (trs.getD r []) k) := by
  rw [rowsToBitmap, getElem?_flatMap_blocks _ (fun _ _ => by simp) r hk, List.getElem?_range hr, Option.bind_some,
    List.getElem?_map, List.getElem?_range hk, Option.map_some]

/-! ## Gray -/

theorem length_grayByte (v : Byte) : (grayByte v).length = 8 := by simp [grayByte]

theorem length_grayExpand (b : Bytes) : (grayExpand b).length = 8 * b.length :=
  length_flatMap_blocks b fun v _ => length_grayByte v

theorem getElem?_grayByte (v : Byte) {i : Nat} (hi : i < 8) :
    (grayByte v)[i]? = some (if v.getLsbD (7 - i) then 0x00 else 0xFF) := by
  simp only [grayByte, bitsM, List.getElem?_map, List.getElem?_range hi, Option.map_some]
  rfl

/-- Eight bytes of gray for each byte of the bitmap (R360). -/
theorem getElem?_grayExpand {b : Bytes} {k i : Nat} {v : Byte} (hv : b[k]? = some v) (hi : i < 8) :
    (grayExpand b)[8 * k + i]? = some (if v.getLsbD (7 - i) then 0x00 else 0xFF) := by
  rw [grayExpand, Nat.mul_comm, getElem?_flatMap_blocks b (fun v _ => length_grayByte v) k hi, hv, Option.bind_some,
    getElem?_grayByte v hi]

theorem step_of_gray {s : State} (hs : running s) (hp : s.phase = .gray)
    (hcap : overCap s.cfg (8 * s.j.input.length) = false) : step s = .next (finishJob (grayExpand s.j.input) s) := by
  have hprep : prepare s = s := prepare_of_ne (by simp [hp])
  rw [step_of_event hs (e := .gray) (by simp only [hprep, want, hp]), hprep]
  exact congrArg _ (if_neg (by simp [length_grayExpand, hcap]))

end Sys2Proof.Machine

open Sys2Proof Sys2Proof.Machine

/-- Settles O57: the bytes of the rows (`getElem?_rowsToBitmap`), and the bits of a byte (`getLsbD_bitmapByte`). -/
theorem bitmapPixelsAreTheBlackRuns : Obligations.BitmapPixelsAreTheBlackRuns := by
  unfold Obligations.BitmapPixelsAreTheBlackRuns
  intro trs columns nrows stride
  refine ⟨length_rowsToBitmap trs columns nrows, fun r x hr hx => ?_⟩
  exact ⟨_, getElem?_rowsToBitmap trs hr (Nat.div_lt_of_lt_mul hx), getLsbD_bitmapByte columns _ x⟩

/-- Settles O60: the event of CCITT_GRAY (`step_of_gray`), and a read after the write of its result. -/
theorem grayExpandsEveryBit : Obligations.GrayExpandsEveryBit := by
  unfold Obligations.GrayExpandsEveryBit
  intro s hs hp hcap hlegal hlen
  have hout : (finishJob (grayExpand s.j.input) s).outLen.toNat = 8 * s.j.input.length := by
    rw [finishJob_outLen, length_grayExpand, lenWord_toNat _ _ (widths_of_legal hlegal).1 hlen]
  refine ⟨_, step_of_gray hs hp hcap, rfl, hout, fun k i v hv hi => ?_⟩
  have hk : k < s.j.input.length := (List.getElem?_eq_some_iff.1 hv).1
  rw [readByte_finishJob _ _ _ (by omega), getElem?_grayExpand hv hi]

end

section
/-! The fax engine (47_fax_engine.md): b1 and b2 of the reference line (R397), and what becomes of a run length (R395,
R398). -/

namespace Sys2Proof.Machine

open Sys2Proof

variable {s : State} {p : Phase} {e : Engine} {x : Host.Outcome State Fault Refusal}

/-! ## FindB (R397) -/

/-- Position `r`, at index `i` of the reference line, is a change right of `a0` to the colour opposite to `colour`
(R397). -/
def oppositeChange (a0 : Int) (colour : Colour) (i r : Nat) : Prop := a0 < (r : Int) ∧ (i % 2 = 1 ↔ colour = .black)

theorem findBFrom_cons_of_oppositeChange {columns i r : Nat} {a0 : Int} {colour : Colour} (rs : List Nat)
    (h : oppositeChange a0 colour i r) : findBFrom columns a0 colour i (r :: rs) = (r, rs.headD columns) :=
  if_pos ⟨h.1, decide_eq_decide.2 h.2⟩

theorem findBFrom_cons_of_not_oppositeChange {columns i r : Nat} {a0 : Int} {colour : Colour} (rs : List Nat)
    (h : ¬ oppositeChange a0 colour i r) :
    findBFrom columns a0 colour i (r :: rs) = findBFrom columns a0 colour (i + 1) rs :=
  if_neg fun h' => h ⟨h'.1, decide_eq_decide.1 h'.2⟩

/-- The search from index `i` on passes `k` positions that are no opposite change; there it stands at one, and answers
it and the position after it, or at the end of the line. -/
theorem findBFrom_first (columns : Nat) (a0 : Int) (colour : Colour) (ref : List Nat) (i : Nat) :
    ∃ k, (∀ j q, j < k → ref[j]? = some q → ¬ oppositeChange a0 colour (i + j) q) ∧
      ((∃ r, ref[k]? = some r ∧ oppositeChange a0 colour (i + k) r ∧
          findBFrom columns a0 colour i ref = (r, ref.getD (k + 1) columns)) ∨
        (ref.length ≤ k ∧ findBFrom columns a0 colour i ref = (columns, columns))) := by
  induction ref generalizing i with
  | nil => exact ⟨0, nofun, .inr ⟨le_rfl, rfl⟩⟩
  | cons r rs ih =>
    by_cases hr : oppositeChange a0 colour i r
    · refine ⟨0, nofun, .inl ⟨r, rfl, hr, ?_⟩⟩
      rw [findBFrom_cons_of_oppositeChange rs hr]
      cases rs <;> rfl
    · have hshift (j : Nat) : i + 1 + j = i + (j + 1) := by omega
      obtain ⟨k, hbefore, hfind⟩ := ih (i + 1)
      simp only [hshift] at hbefore hfind
      rw [findBFrom_cons_of_not_oppositeChange rs hr]
      refine ⟨k + 1, fun j q hj hq => ?_, hfind.imp id (And.imp_left Nat.succ_le_succ)⟩
      cases j with
      | zero => cases hq; exact hr
      | succ j => exact hbefore j q (Nat.lt_of_succ_lt_succ hj) hq

/-! ## What the fax engine leaves -/

/-- An outcome that changes the sequencer's place and the codec registers alone. -/
theorem exists_setCodec (h : x = .next { s with phase := p, eng := e }) :
    ∃ t, x = .next t ∧ onlyCodec s t ∧ t.phase = p ∧ t.eng = e := ⟨_, h, onlyCodec_setCodec p e s, rfl, rfl⟩

/-! ## The position in a row -/

theorem continue2D_of_lt (h : s.eng.fax.a0 < (faxColumns s : Int)) : continue2D s = goto .faxMode s := if_pos h

theorem continue2D_of_le (h : (faxColumns s : Int) ≤ s.eng.fax.a0) : continue2D s = rowDone s.eng.fax.t s :=
  if_neg (Int.not_lt.2 h)

section Run

variable {run a1 : Nat}

/-- A run of a one-dimensional row ends before the width, at it, or beyond it (R398). -/
theorem runComplete_row1d (hu : s.eng.fax.use = .row1d) : runComplete run s =
    if faxColumns s < s.eng.fax.pos + run then faxStop s
    else if s.eng.fax.pos + run < faxColumns s then
      goto .faxRun (setFax (fun f =>
        { f with pos := f.pos + run, t := f.t ++ [f.pos + run], colour := otherColour f.colour, total := 0 }) s)
    else rowDone (s.eng.fax.t ++ [s.eng.fax.pos + run]) s := by
  rw [runComplete, hu]

/-- The first run of HORIZ gives `a1` (R395). -/
theorem runComplete_horiz1 (hu : s.eng.fax.use = .horiz1) : runComplete run s =
    goto .faxRun (setFax (fun f => { f with use := .horiz2 (a0Pos f + run), total := 0 }) s) := by
  rw [runComplete, hu]

/-- The second run of HORIZ gives `a2`, which the row admits up to the width (R395). -/
theorem runComplete_horiz2 (hu : s.eng.fax.use = .horiz2 a1) : runComplete run s =
    if faxColumns s < a1 + run then faxStop s
    else continue2D (setFax (fun f => { f with t := f.t ++ [a1, a1 + run], a0 := ((a1 + run : Nat) : Int) }) s) := by
  rw [runComplete, hu]

theorem runComplete_row1d_of_lt (hu : s.eng.fax.use = .row1d) (h : s.eng.fax.pos + run < faxColumns s) :
    runComplete run s = goto .faxRun (setFax (fun f =>
      { f with pos := f.pos + run, t := f.t ++ [f.pos + run], colour := otherColour f.colour, total := 0 }) s) := by
  rw [runComplete_row1d hu, if_neg (Nat.lt_asymm h), if_pos h]

theorem runComplete_row1d_of_eq (hu : s.eng.fax.use = .row1d) (h : s.eng.fax.pos + run = faxColumns s) :
    runComplete run s = rowDone (s.eng.fax.t ++ [faxColumns s]) s := by
  rw [runComplete_row1d hu, h, if_neg (Nat.lt_irrefl _), if_neg (Nat.lt_irrefl _)]

theorem runComplete_horiz2_of_lt (hu : s.eng.fax.use = .horiz2 a1) (h : a1 + run < faxColumns s) :
    runComplete run s = goto .faxMode (setFax (fun f =>
      { f with t := f.t ++ [a1, a1 + run], a0 := ((a1 + run : Nat) : Int) }) s) := by
  rw [runComplete_horiz2 hu, if_neg (Nat.lt_asymm h), continue2D_of_lt (Int.ofNat_lt.2 h)]

theorem runComplete_horiz2_of_eq (hu : s.eng.fax.use = .horiz2 a1) (h : a1 + run = faxColumns s) :
    runComplete run s = rowDone (s.eng.fax.t ++ [a1, faxColumns s]) (setFax (fun f =>
      { f with t := f.t ++ [a1, faxColumns s], a0 := (faxColumns s : Int) }) s) := by
  rw [runComplete_horiz2 hu, h, if_neg (Nat.lt_irrefl _), continue2D_of_le (Int.le_refl _)]
  rfl

/-- A run that ends beyond the width stops the attempt (R395, R398). -/
theorem runComplete_of_beyond
    (h : (s.eng.fax.use = .row1d ∧ faxColumns s < s.eng.fax.pos + run) ∨
      ∃ a1, s.eng.fax.use = .horiz2 a1 ∧ faxColumns s < a1 + run) : runComplete run s = faxStop s := by
  obtain ⟨hu, h⟩ | ⟨a1, hu, h⟩ := h
  · rw [runComplete_row1d hu, if_pos h]
  · rw [runComplete_horiz2 hu, if_pos h]

end Run

end Sys2Proof.Machine

open Sys2Proof Sys2Proof.Machine

/-- Settles O55: the search from index 0 on (`findBFrom_first`). -/
theorem findBIsTheFirstOppositeChange : Obligations.FindBIsTheFirstOppositeChange := by
  unfold Obligations.FindBIsTheFirstOppositeChange
  intro columns f
  obtain ⟨k, hbefore, hfind⟩ := findBFrom_first columns f.a0 f.colour f.ref 0
  simp only [Nat.zero_add] at hbefore hfind
  obtain ⟨r, hr, hchange, hfind⟩ | ⟨hend, hfind⟩ := hfind
  · exact .inl ⟨k, r, hr, hchange, hbefore, hfind⟩
  · exact .inr ⟨fun j q hq => hbefore j q ((List.getElem?_eq_some_iff.1 hq).1.trans_le hend) hq, hfind⟩

/-- Settles O53: what becomes of a run (`runComplete_row1d`, `runComplete_horiz1`, `runComplete_horiz2`). -/
theorem faxRunCodesAddUp : Obligations.FaxRunCodesAddUp := by
  unfold Obligations.FaxRunCodesAddUp
  refine ⟨fun p hp s => exists_setCodec (exec_makeUpCodes p hp s), fun p hp s run c hrun hc => ?_⟩
  subst hrun hc
  have hexec {t : State} (h : runComplete (s.eng.fax.total + p.2) s = t) : exec p.1 s = .next t :=
    (exec_terminatingCodes p hp s).trans (congrArg _ h)
  refine ⟨fun hu h => ?_, fun hu h => ?_, fun hu => ?_, fun a1 hu h => ?_, fun a1 hu h => ?_, fun h => ?_⟩
  · exact exists_setCodec (hexec (runComplete_row1d_of_lt hu h))
  · exact exists_setCodec (hexec (runComplete_row1d_of_eq hu h))
  · have ha0 : a0Pos s.eng.fax = (max s.eng.fax.a0 0).toNat := by rw [a0Pos]; omega
    exact ha0 ▸ exists_setCodec (hexec (runComplete_horiz1 hu))
  · exact exists_setCodec (hexec (runComplete_horiz2_of_lt hu h))
  · exact exists_setCodec (hexec (runComplete_horiz2_of_eq hu h))
  · exact hexec (runComplete_of_beyond h)

end

section
/-! The two-dimensional modes (R394 to R397) and the beginning of a fax row (R384 to R386, R392). -/

namespace Sys2Proof.Machine

open Sys2Proof

variable {s : State}

/-! ## Vertical modes (R396) -/

theorem a0Pos_eq_max (f : FaxRegs) : (a0Pos f : Int) = max f.a0 0 := Int.ofNat_toNat f.a0

/-- A vertical mode between `A0` and the width places a transition there. -/
theorem vertical_of_inside {d : Int} {a1 : Nat} (ha1 : ((findB (faxColumns s) s.eng.fax).1 : Int) + d = a1)
    (hlo : max s.eng.fax.a0 0 ≤ a1) (hhi : a1 ≤ faxColumns s) : vertical d s =
      continue2D (setFax (fun f => { f with t := f.t ++ [a1], a0 := a1, colour := otherColour f.colour }) s) := by
  rw [vertical, ha1, a0Pos_eq_max]
  exact if_neg (by omega)

/-- A vertical mode elsewhere stops the attempt. -/
theorem vertical_of_outside {d a1 : Int} (ha1 : ((findB (faxColumns s) s.eng.fax).1 : Int) + d = a1)
    (h : a1 < max s.eng.fax.a0 0 ∨ (faxColumns s : Int) < a1) : vertical d s = faxStop s := by
  rw [vertical, ha1, a0Pos_eq_max]
  exact if_pos h.symm

/-! ## The rows asked for, tag bits, alignment -/

theorem rowsComplete_iff (s : State) : rowsComplete s = true ↔
    s.j.desc.cFlags.getLsbD 0 = true ∧ s.j.desc.cRows.toNat ≤ s.eng.fax.rowsDone.length := by
  unfold rowsComplete ccittRows
  cases s.j.desc.cFlags.getLsbD 0 <;> simp

theorem rowsComplete_eq_false_iff (s : State) : rowsComplete s = false ↔
    s.j.desc.cFlags.getLsbD 0 = false ∨ s.eng.fax.rowsDone.length < s.j.desc.cRows.toNat := by
  rw [← Bool.not_eq_true, rowsComplete_iff, not_and_or, Bool.not_eq_true, Nat.not_le]

/-- Below bit 31, K is positive where it is not 0 (R31). -/
theorem toInt_pos_iff_ne_zero {k : BitVec 32} (h : k.getLsbD 31 = false) : 0 < k.toInt ↔ k ≠ 0 := by
  have hmsb : k.msb = false := (BitVec.msb_eq_getLsbD_last k).trans h
  have hne : k.toNat ≠ 0 ↔ k ≠ 0 := (BitVec.toNat_ne (y := 0)).symm
  rw [BitVec.toInt_eq_toNat_of_msb hmsb, Int.natCast_pos, Nat.pos_iff_ne_zero, hne]

/-- Tag bits are read in Group 3 data with a positive K (R384). -/
theorem readsTags_iff {cfg : Config} {d : Descriptor} (h : isGroup4 d = false) :
    readsTags cfg d = true ↔ cfg.g3TwoD = true ∧ 0 < d.cK.toInt := by
  rw [toInt_pos_iff_ne_zero h, readsTags, h]
  simp

/-- Which rows begin at a byte boundary (R385, log 33). -/
theorem alignsRow_iff (s : State) : (byteAlign s.j.desc && (isGroup4 s.j.desc || !announced s)) = true ↔
    s.j.desc.cFlags.getLsbD 3 = true ∧ (s.j.desc.cK.getLsbD 31 = true ∨
      ¬ (s.j.desc.cFlags.getLsbD 2 = true ∨ s.cfg.g3TwoD = true ∧ 0 < s.j.desc.cK.toInt)) := by
  rw [Bool.and_eq_true, Bool.or_eq_true]
  refine and_congr_right fun _ => or_congr_right' fun hgroup => ?_
  rw [← readsTags_iff (eq_false_of_ne_true hgroup), announced, Bool.not_eq_true', ← Bool.not_eq_true,
    Bool.or_eq_true]
  rfl

/-! ## The beginning of a row (R385, R392) -/

theorem step_of_faxRowStart (hs : running s) (hp : s.phase = .faxRowStart) : step s = .next (beginRow s) := by
  have hprep : prepare s = s := prepare_of_ne (by simp [hp])
  rw [step_of_event hs (e := .faxRowStart) (by simp only [hprep, want, hp]), hprep]
  rfl

theorem step_of_noEol {r : Reject} (hs : running s) (hp : s.phase = .faxEol)
    (hd : decode (.faxEol (s.j.desc.cK.getLsbD 31)) (restM s) = .reject r) : step s = .next (eolsDone s) := by
  have hprep : prepare s = s := prepare_of_ne (by simp [hp])
  have hw : want (prepare s) = .code (.faxEol (s.j.desc.cK.getLsbD 31)) (restM s) := by
    simp only [hprep, want, hp]
    rfl
  rw [step_of_reject hs hw hd, hprep, handleReject_faxEol hp]

/-- With a row still to do, the search for EOL codes begins where the row begins. -/
theorem beginRow_of_rowsLeft {pos : Nat} (h : rowsComplete s = false)
    (haligned : (byteAlign s.j.desc && (isGroup4 s.j.desc || !announced s)) = true →
      pos = 8 * ((s.eng.bitPos + 7) / 8))
    (hhere : ¬ (byteAlign s.j.desc && (isGroup4 s.j.desc || !announced s)) = true → pos = s.eng.bitPos) :
    beginRow s = goto .faxEol
      { s with eng := { s.eng with bitPos := pos, fax := { s.eng.fax with eols := 0 } } } := by
  rw [beginRow, h, if_neg Bool.false_ne_true]
  split
  case isTrue hc => rw [haligned hc]; rfl
  case isFalse hc => rw [hhere hc]; rfl

theorem atEnd_iff (s : State) : atEnd s = true ↔ 8 * s.eng.src.length ≤ s.eng.bitPos := decide_eq_true_iff

theorem eolsDone_group4_of_atEnd (hg : isGroup4 s.j.desc = true) (h : 8 * s.eng.src.length ≤ s.eng.bitPos) :
    eolsDone s = attemptEnd s.eng.fax.rowsDone s := by
  rw [eolsDone, if_pos hg, if_pos ((atEnd_iff s).2 h)]

theorem eolsDone_group4_of_not_atEnd (hg : isGroup4 s.j.desc = true)
    (h : ¬ 8 * s.eng.src.length ≤ s.eng.bitPos) : eolsDone s = beginRow2D s := by
  rw [eolsDone, if_pos hg, if_neg (mt (atEnd_iff s).1 h)]

/-- Group 3 data end after the EOL codes counted: at the end of the input, at two EOL codes, or where a row lacks the
EOL that is announced (R385, R386). -/
def noRowFollows (s : State) : Prop :=
  8 * s.eng.src.length ≤ s.eng.bitPos ∨ 2 ≤ s.eng.fax.eols ∨
    (s.j.desc.cFlags.getLsbD 2 = true ∧ s.eng.fax.first = false ∧ s.eng.fax.eols = 0)

theorem lacksEol_iff (s : State) :
    (announced s && endOfLine s.j.desc && decide (s.eng.fax.eols = 0) && !s.eng.fax.first) = true ↔
      s.j.desc.cFlags.getLsbD 2 = true ∧ s.eng.fax.first = false ∧ s.eng.fax.eols = 0 := by
  unfold announced endOfLine
  cases s.j.desc.cFlags.getLsbD 2 <;> simp [and_comm]

theorem eolsDone_of_noRowFollows (hg : isGroup4 s.j.desc = false) (h : noRowFollows s) :
    eolsDone s = attemptEnd s.eng.fax.rowsDone s := by
  rw [eolsDone, hg, if_neg Bool.false_ne_true]
  split
  case isTrue => rfl
  case isFalse heol =>
    split
    case isTrue => rfl
    case isFalse htwo =>
      obtain hend | h | h := h
      · exact if_pos ((atEnd_iff s).2 hend)
      · exact absurd h htwo
      · exact absurd ((lacksEol_iff s).2 h) heol

theorem eolsDone_of_rowFollows (hg : isGroup4 s.j.desc = false) (h : ¬ noRowFollows s) :
    eolsDone s = beginRowBody s := by
  obtain ⟨hend, h⟩ := not_or.1 h
  obtain ⟨htwo, heol⟩ := not_or.1 h
  rw [eolsDone, hg, if_neg Bool.false_ne_true, if_neg (mt (lacksEol_iff s).1 heol), if_neg htwo,
    if_neg (mt (atEnd_iff s).1 hend)]

/-! ## The tag bit (R384) -/

theorem beginRowBody_of_noTags (h : readsTags s.cfg s.j.desc = false) :
    beginRowBody s = beginRow1D (setFax (fun f => { f with first := false }) s) := by
  rw [beginRowBody, h, if_neg Bool.false_ne_true]

/-- The tag bit is read, and 1 begins a one-dimensional row, 0 a two-dimensional one. -/
theorem beginRowBody_of_tag {tag : Bool} {rest : List Bool} (h : readsTags s.cfg s.j.desc = true)
    (hrest : restM s = tag :: rest) :
    beginRowBody s = (if tag then beginRow1D else beginRow2D)
      { s with eng := { s.eng with bitPos := s.eng.bitPos + 1, fax := { s.eng.fax with first := false } } } := by
  rw [beginRowBody, h, if_pos rfl, hrest]
  cases tag <;> rfl

end Sys2Proof.Machine

open Sys2Proof Sys2Proof.Machine

/-- Settles O54: where a mode moves the position (`vertical_of_inside`, `continue2D_of_lt`), and what the two steps
before a row do (`beginRow_of_rowsLeft`, `eolsDone_of_rowFollows`, `beginRowBody_of_tag`). -/
theorem twoDimensionalModesMoveThePosition : Obligations.TwoDimensionalModesMoveThePosition := by
  unfold Obligations.TwoDimensionalModesMoveThePosition
  refine ⟨fun p hp s a1 c hc ha1 => ?_, fun s b2 c hc hb2 => ?_, fun s => exists_setCodec rfl,
    fun s fill => ⟨fun hg => ?_, fun hg => ?_⟩, ?_, ?_⟩
  · subst hc
    have hexec {t : State} (h : vertical p.2 s = t) : exec p.1 s = .next t :=
      (exec_verticalModes p hp s).trans (congrArg _ h)
    refine ⟨fun hlo hhi => ?_, fun hlo hhi => ?_, fun h => hexec (vertical_of_outside ha1.symm h)⟩
    · obtain ⟨n, rfl⟩ : ∃ n : Nat, a1 = n := Int.eq_ofNat_of_zero_le (by omega)
      have hn : n ≤ faxColumns s := Int.ofNat_le.1 hhi.le
      exact exists_setCodec (hexec ((vertical_of_inside ha1.symm hlo hn).trans (continue2D_of_lt hhi)))
    · subst hhi
      exact exists_setCodec (hexec ((vertical_of_inside ha1.symm hlo le_rfl).trans (continue2D_of_le le_rfl)))
  · subst hc hb2
    have hexec {t : State}
        (h : continue2D (setFax (fun f => { f with a0 := ((findB (faxColumns s) f).2 : Int) }) s) = t) :
        exec .faxPass s = .next t := congrArg _ h
    exact ⟨fun h => exists_setCodec (hexec (continue2D_of_lt (Int.ofNat_lt.2 h))),
      fun h => exists_setCodec (hexec (continue2D_of_le (Int.ofNat_le.2 h)))⟩
  · exact exists_setCodec (congrArg _ (if_neg (ne_true_of_eq_false hg)))
  · exact congrArg _ (if_pos hg)
  · intro s pos hs hp group4 tagged aligned
    have hstep := step_of_faxRowStart hs hp
    refine ⟨fun hrows hdone => ?_, fun hleft haligned hhere => ?_⟩
    · rw [hstep, beginRow, if_pos ((rowsComplete_iff s).2 ⟨hrows, hdone⟩)]
    · refine exists_setCodec (hstep.trans (congrArg _ (beginRow_of_rowsLeft ((rowsComplete_eq_false_iff s).2 hleft)
        (fun h => ?_) fun h => hhere (mt (alignsRow_iff s).2 h))))
      obtain ⟨p, rfl, hge, hlt⟩ := haligned ((alignsRow_iff s).1 h)
      omega
  · intro s r hs hp hd row1d row2d exhausted tagged ends
    have hstep := step_of_noEol hs hp hd
    refine ⟨fun hg => ?_, fun hg => ?_⟩
    · exact ⟨fun h => hstep.trans (congrArg _ (eolsDone_group4_of_atEnd hg h)),
        fun h => exists_setCodec (hstep.trans (congrArg _ (eolsDone_group4_of_not_atEnd hg h)))⟩
    · have hrow {t : State} (hends : ¬ ends) (h : beginRowBody s = t) : step s = .next t :=
        hstep.trans (congrArg _ ((eolsDone_of_rowFollows hg hends).trans h))
      refine ⟨fun h => hstep.trans (congrArg _ (eolsDone_of_noRowFollows hg h)), fun hends htag => ?_,
        fun hends htag => ⟨fun rest hrest => ?_, fun rest hrest => ?_⟩⟩
      · have hno : readsTags s.cfg s.j.desc = false := eq_false_of_ne_true (mt (readsTags_iff hg).1 htag)
        exact exists_setCodec (hrow hends (beginRowBody_of_noTags hno))
      · exact exists_setCodec (hrow hends (beginRowBody_of_tag ((readsTags_iff hg).2 htag) hrest))
      · exact exists_setCodec (hrow hends (beginRowBody_of_tag ((readsTags_iff hg).2 htag) hrest))

end

section
/-! The beginning and the end of a fax attempt (R352 to R358, R361, R382). -/

namespace Sys2Proof.Machine

open Sys2Proof

variable {s : State} {bm input : Bytes}

/-! ## The end of a job with a bitmap (R358, R361) -/

/-- The rows of the bitmap: those asked for, or those there are (R358). -/
theorem ccittRows_getD (d : Descriptor) (n : Nat) :
    (ccittRows d).getD n = if d.cFlags.getLsbD 0 then d.cRows.toNat else n := by
  unfold ccittRows
  cases d.cFlags.getLsbD 0 <;> rfl

theorem getElem?_invertBitmap (black : Bool) {k : Nat} {b : Byte} (h : bm[k]? = some b) :
    (invertBitmap black bm)[k]? = some (if black then ~~~b else b) := by
  cases black with
  | false => exact h
  | true => rw [getElem?_invertBitmap_true, h]; rfl

/-- A job that ended in DONE with the bitmap `bm` before inversion: its length in OUT_LEN (log 16), its bytes in OUT,
inverted under BLACK_IS_1. -/
structure Delivers (bm : Bytes) (s t : State) : Prop where
  status : t.status = { s.status with state := .done }
  outLen : t.outLen = lenWord s.cfg bm.length
  outLen_toNat : Config.legal s.cfg = true → bm.length < 2 ^ s.cfg.lenBits → t.outLen.toNat = bm.length
  bytes : ∀ k b, bm[k]? = some b → readByte .out t.out k = some (if s.j.desc.cFlags.getLsbD 1 then ~~~b else b)

theorem delivers_finishBitmap (h : overCap s.cfg bm.length = false) : Delivers bm s (finishBitmap bm s) := by
  have hlen := length_invertBitmap (blackIs1 s.j.desc) bm
  have houtLen : (finishBitmap bm s).outLen = lenWord s.cfg bm.length := by
    rw [finishBitmap_of_fits h, finishJob_outLen, hlen]
  refine ⟨by rw [finishBitmap_of_fits h]; rfl, houtLen, fun hlegal hfits => ?_, fun k b hk => ?_⟩
  · rw [houtLen, lenWord_toNat _ _ (widths_of_legal hlegal).1 hfits]
  · have hlt : k < bm.length := (List.getElem?_eq_some_iff.1 hk).1
    rw [finishBitmap_of_fits h, finishJob_out, readByte_writeBytes, hlen, if_pos (by omega)]
    exact getElem?_invertBitmap _ hk

/-! ## The white bitmap and the empty one (R352, R357) -/

theorem overCap_zero (cfg : Config) : overCap cfg 0 = false := by
  unfold overCap
  cases cfg.bufCap <;> rfl

theorem bitmapByte_nil (columns k : Nat) : bitmapByte columns [] k = 0 := by
  simp only [bitmapByte, blackAt, Bool.and_false]
  rfl

/-- Without rows every byte of the bitmap is 0x00. -/
theorem getElem?_rowsToBitmap_nil {columns nrows k : Nat} (h : k < (rowsToBitmap [] columns nrows).length) :
    (rowsToBitmap [] columns nrows)[k]? = some 0 := by
  have hzero : ∀ b ∈ rowsToBitmap [] columns nrows, b = 0 := by
    intro b hb
    obtain ⟨r, -, hb⟩ := List.mem_flatMap.1 hb
    obtain ⟨j, -, rfl⟩ := List.mem_map.1 hb
    exact bitmapByte_nil columns j
  rw [List.getElem?_eq_getElem h, hzero _ (List.getElem_mem h)]

/-! ## The end of an attempt (R355 to R357, R382) -/

/-- Seven bits that are no mode, and thirteen that are no run code, stop the attempt (R393). -/
theorem exec_faxIllegal {i : Instr} (hi : (∃ x, i = .faxModeIllegal x) ∨ ∃ x, i = .faxRunIllegal x) (s : State) :
    exec i s = .next (faxStop s) := by
  obtain ⟨x, rfl⟩ | ⟨x, rfl⟩ := hi <;> rfl

theorem faxStop_of_rows (h : s.eng.fax.rowsDone ≠ []) :
    faxStop s = finishBitmap (rowsToBitmap s.eng.fax.rowsDone (faxColumns s)
      (if s.j.desc.cFlags.getLsbD 0 then s.j.desc.cRows.toNat else s.eng.fax.rowsDone.length)) s := by
  rw [faxStop, attemptEnd, if_neg h, finishRows, ccittRows_getD]

theorem faxStop_of_firstAttempt (h : s.eng.fax.rowsDone = []) (ha : s.eng.fax.attempt = 1) :
    faxStop s = goto .faxBegin (setFax (fun _ => FaxRegs.init 2) (setCcittRetry s)) := by
  rw [faxStop, attemptEnd, if_pos h, if_pos ha]

theorem faxStop_of_secondAttempt (h : s.eng.fax.rowsDone = []) (ha : s.eng.fax.attempt = 2) :
    faxStop s = finishBitmap (rowsToBitmap [] (faxColumns s)
      (if s.j.desc.cFlags.getLsbD 0 then s.j.desc.cRows.toNat else 0)) (setCcittWhite s) := by
  rw [faxStop, attemptEnd, if_pos h, if_neg (by simp [ha]), finishRows, ccittRows_getD]
  rfl

/-! ## The beginning of an attempt (R351 to R356) -/

theorem step_of_faxBegin (hs : running s) (hp : s.phase = .faxBegin) : step s = .next (beginAttempt s) := by
  have hprep : prepare s = s := prepare_of_ne (by simp [hp])
  rw [step_of_event hs (e := .faxBegin) (by simp only [hprep, want, hp]), hprep]
  rfl

theorem faxColumns_ne_zero (h : s.j.desc.cColumns ≠ 0) : faxColumns s ≠ 0 :=
  fun h0 => h (BitVec.eq_of_toNat_eq h0)

/-- The retry reads the input from its first byte on that is not 0x00 (R356). -/
theorem stripLeadingZeros_append {zeros : Bytes} (hzeros : ∀ b ∈ zeros, b = 0) (hinput : input.head? ≠ some 0) :
    stripLeadingZeros (zeros ++ input) = input := by
  rw [stripLeadingZeros, List.dropWhile_append_of_pos fun b hb => decide_eq_true (hzeros b hb)]
  cases input with
  | nil => rfl
  | cons b rest => exact List.dropWhile_cons_of_neg fun hb => hinput (congrArg some (of_decide_eq_true hb))

theorem attemptInput_eq (h : (s.eng.fax.attempt = 1 ∧ input = s.j.input) ∨
      (s.eng.fax.attempt = 2 ∧ input.head? ≠ some 0 ∧ ∃ zeros, s.j.input = zeros ++ input ∧ ∀ b ∈ zeros, b = 0)) :
    attemptInput s = input := by
  obtain ⟨ha, rfl⟩ | ⟨ha, hhead, zeros, hinput, hzeros⟩ := h
  · exact if_pos ha
  · rw [attemptInput, if_neg (by simp [ha]), hinput, stripLeadingZeros_append hzeros hhead]

/-- The contract of R353, read from the descriptor. -/
theorem meetsContract_faxParams_iff (d : Descriptor) (rows : List (List Nat)) :
    meetsContract (faxParams d) rows = true ↔ (∀ r ∈ rows, rowWf d.cColumns.toNat r) ∧
      (d.cFlags.getLsbD 0 = true → rows.length ≤ d.cRows.toNat) := by
  rw [meetsContract_iff]
  refine and_congr_right fun _ => ?_
  show (∀ n, ccittRows d = some n → _) ↔ _
  unfold ccittRows
  cases d.cFlags.getLsbD 0 <;> simp

end Sys2Proof.Machine

open Sys2Proof Sys2Proof.Machine

/-- Settles O56: what a stop is (`faxStop_of_rows`, `faxStop_of_firstAttempt`, `faxStop_of_secondAttempt`), the bitmap a
job then delivers (`delivers_finishBitmap`), and the input of an attempt (`attemptInput_eq`). -/
theorem faxStopEndsTheAttempt : Obligations.FaxStopEndsTheAttempt := by
  unfold Obligations.FaxStopEndsTheAttempt
  refine ⟨fun i s hi => ⟨fun bm hrows hbm hcap => ?_, fun hrows ha => ?_, fun rows len hrows ha hn hlen hcap => ?_⟩,
    fun s hs hp hc => ?_, fun s input hs hp hc hinput => ⟨fun hrep => ?_, fun rows hrep hrows => ?_⟩⟩
  · subst hbm
    obtain ⟨hstatus, hout, hnat, hbytes⟩ := delivers_finishBitmap hcap
    exact ⟨_, (exec_faxIllegal hi s).trans (congrArg _ (faxStop_of_rows hrows)), hstatus, hout, hnat, hbytes⟩
  · exact ⟨_, (exec_faxIllegal hi s).trans (congrArg _ (faxStop_of_firstAttempt hrows ha)),
      ⟨rfl, rfl, rfl, rfl, rfl, rfl⟩, bytesKept_of_eq rfl rfl rfl, ⟨rfl, rfl, rfl, rfl⟩, rfl, rfl, rfl⟩
  · have hbm : (rowsToBitmap [] (faxColumns s) rows).length = len :=
      (length_rowsToBitmap _ _ _).trans ((Nat.mul_comm _ _).trans hlen.symm)
    subst hn hbm
    obtain ⟨hstatus, hout, hnat, hbytes⟩ := delivers_finishBitmap (s := setCcittWhite s) hcap
    refine ⟨_, (exec_faxIllegal hi s).trans (congrArg _ (faxStop_of_secondAttempt hrows ha)), hstatus, hout, hnat,
      fun k hk => hbytes k 0 (getElem?_rowsToBitmap_nil hk)⟩
  · have hzero : faxColumns s = 0 := congrArg BitVec.toNat hc
    obtain ⟨hstatus, hout, -, -⟩ := delivers_finishBitmap (bm := []) (s := setCcittWhite s) (overCap_zero s.cfg)
    refine ⟨_, (step_of_faxBegin hs hp).trans (congrArg _ (if_pos hzero)), hstatus, hout.trans ?_⟩
    exact congrArg (BitVec.ofNat 64) (Nat.zero_mod _)
  · have hbegin := step_of_faxBegin hs hp
    rw [beginAttempt, if_neg (faxColumns_ne_zero hc), hrep, if_neg Bool.false_ne_true, attemptInput_eq hinput] at hbegin
    exact exists_setCodec hbegin
  · subst hrows
    have hbegin := step_of_faxBegin hs hp
    rw [beginAttempt, if_neg (faxColumns_ne_zero hc), if_pos hrep, attemptInput_eq hinput, faxEngineRows] at hbegin
    simp only [← meetsContract_faxParams_iff]
    exact ⟨fun h => by rw [hbegin, if_pos h], fun h => by rw [hbegin, if_neg h]⟩

end

section
/-! Exceptions (60_exceptions.md R421, R423, R426): every place where an output longer than a finite BUF_CAP ends the
job. -/

namespace Sys2Proof.Machine

open Sys2Proof

variable {s : State} {unit cap n : Nat} {bs : Bytes} {x : Host.Outcome State Fault Refusal}

/-! ## The capacity exception (R423) -/

/-- The outcome `x` is the exception CAP_EXCEEDED, raised by `unit` in the job of `s` (R423, R426). -/
def capAborts (cap unit : Nat) (x : Host.Outcome State Fault Refusal) (s : State) : Prop :=
  ∃ t, x = .next t ∧ aborted .decodeError 0x7F unit cap 0 0 0 s t

/-- What the codec registers held before the exception does not matter: they are discarded (R426). -/
theorem capAborts_of_setEng (e : Engine) (h : capAborts cap unit x { s with eng := e }) : capAborts cap unit x s := h

section Capacity

variable (hc : s.cfg.bufCap = some cap)

include hc

theorem overCap_of_lt (h : cap < n) : overCap s.cfg n = true := by
  rw [overCap, hc]
  exact decide_eq_true h

theorem capAborts_raiseCap (unit : Nat) : capAborts cap unit (.next (raiseCap unit s)) s := by
  rw [raiseCap, hc]
  exact ⟨_, rfl, aborted_raise (.capExceeded cap) unit s⟩

theorem capAborts_emit {k : State → State} (h : cap < s.eng.out.length + bs.length) :
    capAborts cap unit (.next (emit unit bs s k)) s := by
  rw [emit, if_pos (overCap_of_lt hc h)]
  exact capAborts_raiseCap hc unit

theorem capAborts_deliver (h : cap < bs.length) : capAborts cap unit (.next (deliver unit bs s)) s := by
  rw [deliver, if_pos (overCap_of_lt hc h)]
  exact capAborts_raiseCap hc unit

theorem capAborts_finishBitmap (h : cap < bs.length) : capAborts cap 6 (.next (finishBitmap bs s)) s := by
  rw [finishBitmap, if_pos (overCap_of_lt hc h)]
  exact capAborts_raiseCap hc 6

/-! ## Flate -/

theorem capAborts_distance {i : Instr} {d : Nat} (hi : distanceOf i = some d) (hd : d ≤ s.eng.out.length)
    (h : cap < s.eng.out.length + s.eng.inflate.matchLen) : capAborts cap 0 (exec i s) s := by
  rw [exec_of_distanceOf hi, matchDistance, if_neg (Nat.not_lt.2 hd), if_pos (overCap_of_lt hc h)]
  exact capAborts_raiseCap hc 0

theorem capAborts_storedData {data : Bytes} (h : cap < s.eng.out.length + min n data.length) :
    capAborts cap 0 (.next (storedData n data s)) s :=
  capAborts_emit hc (by rwa [List.length_take])

theorem capAborts_storedBlock {l0 l1 n0 n1 : Byte} {data : Bytes}
    (hsrc : s.eng.src.drop (s.eng.bitPos / 8) = l0 :: l1 :: n0 :: n1 :: data) (hn : n = l0.toNat + 256 * l1.toNat)
    (hlen : n + (n0.toNat + 256 * n1.toNat) = 65535) (h : cap < s.eng.out.length + min n data.length) :
    capAborts cap 0 (.next (storedBlock s)) s := by
  subst hn
  simp only [storedBlock, hsrc, if_neg (not_not_intro ((eq_complement_iff (by omega)).2 hlen))]
  exact capAborts_of_setEng _
    (capAborts_storedData (s := { s with eng := { s.eng with bitPos := s.eng.bitPos + 32 } }) hc h)

theorem capAborts_blkStored {final : Bool} {l0 l1 n0 n1 : Byte} {data : Bytes}
    (hsrc : s.eng.src.drop ((s.eng.bitPos + 7) / 8) = l0 :: l1 :: n0 :: n1 :: data)
    (hn : n = l0.toNat + 256 * l1.toNat) (hlen : n + (n0.toNat + 256 * n1.toNat) = 65535)
    (h : cap < s.eng.out.length + min n data.length) : capAborts cap 0 (exec (.blkStored final) s) s := by
  rw [exec_blkStored]
  exact capAborts_of_setEng _
    (capAborts_storedBlock (s := alignBits (setFinal final s)) hc (by rwa [alignBits_bitPos_div]) hn hlen h)

/-- An answer of an alternative inflater (R167, R168). -/
theorem capAborts_alternative {m : Nat} {present : Bool} {f : Bytes → Option Bytes} (hp : present = true)
    (hf : f s.cur = some bs) (h : cap < bs.length) : capAborts cap 0 (.next (alternative m present f s)) s := by
  obtain ⟨b, o, rfl⟩ := List.exists_cons_of_length_pos (Nat.zero_lt_of_lt h)
  simp only [alternative, hp, if_true, hf, overCap_of_lt hc h]
  exact capAborts_raiseCap hc 0

/-! ## LZW -/

theorem capAborts_lzwData (h : cap < s.eng.out.length + bs.length) : capAborts cap 3 (.next (lzwData bs s)) s :=
  capAborts_emit hc h

theorem capAborts_lzwRef {c : BitVec 16} (hlo : 258 ≤ c.toNat) (hlt : c.toNat < s.eng.lzw.nextCode)
    (hstr : s.eng.lzw.tab[c.toNat - 258]? = some bs) (h : cap < s.eng.out.length + bs.length) :
    capAborts cap 3 (exec (.lzwRef c) s) s := by
  rw [exec_lzwRef_of_string ((lzwString_assigned s.eng.lzw c.toNat hlo hlt).trans hstr)]
  exact capAborts_lzwData hc h

theorem capAborts_lzwKwkwk {p : Bytes} (hp : s.eng.lzw.prev = some p) (hlt : s.eng.lzw.nextCode < 4096)
    (h : cap < s.eng.out.length + (p ++ p.take 1).length) : capAborts cap 3 (exec .lzwKwkwk s) s := by
  rw [exec_lzwKwkwk_of_prev hp hlt]
  exact capAborts_lzwData hc h

/-- An answer of LZW_PRIMARY (R253). -/
theorem capAborts_lzwDecode (hp : s.cfg.lzwPrimaryPresent = true) (hf : Config.lzwPrimary s.cur = some bs)
    (h : cap < bs.length) : capAborts cap 3 (exec .lzwDecode s) s := by
  have hexec : exec .lzwDecode s = .next (deliver 3 bs s) := by
    show execLzwDecode s = _
    simp only [execLzwDecode, lzwPrimary_eq hp, hf]
  exact hexec ▸ capAborts_deliver hc h

/-! ## The simple codecs -/

theorem capAborts_hexDigit {c : Byte} {v d : BitVec 4} (hv : hexVal c = some v) (hhi : s.eng.hi = some d)
    (h : cap < s.eng.out.length + 1) : capAborts cap 1 (exec (.hexDigit c) s) s := by
  show capAborts cap 1 (execHexDigit c s) s
  simp only [execHexDigit, hv, hhi]
  exact capAborts_emit hc h

/-- The padded digit at the end of the input (R283, R285). -/
theorem capAborts_hexEnd {d : BitVec 4} (hused : bytesUsedUp .hex s) (hhi : s.eng.hi = some d)
    (h : cap < s.eng.out.length + 1) : capAborts cap 1 (step s) s := by
  rw [step_of_hexUsedUp hused]
  simp only [hexEnd, hhi]
  exact capAborts_emit hc h

theorem capAborts_emitGroup {k v : Nat} {next : State → State} (hk : k ≤ 4) (hv : v < 2 ^ 32)
    (h : cap < s.eng.out.length + k) : capAborts cap 2 (.next (emitGroup k v s next)) s := by
  rw [emitGroup, if_neg (Nat.not_le.2 hv)]
  exact capAborts_emit hc (by rwa [groupBytes_eq_map hk, List.length_map, List.length_range])

theorem capAborts_a85Z (hzero : s.eng.ngrp = 0) (h : cap < s.eng.out.length + 4) :
    capAborts cap 2 (exec .a85Z s) s := by
  show capAborts cap 2 (execA85Z s) s
  rw [execA85Z, if_neg (not_not_intro hzero)]
  exact capAborts_emit hc h

/-- The fifth digit of a group (R290). -/
theorem capAborts_a85Digit {c : Byte} (hfour : s.eng.ngrp = 4) (hv : 85 * s.eng.acc + (c.toNat - 0x21) < 2 ^ 32)
    (h : cap < s.eng.out.length + 4) : capAborts cap 2 (exec (.a85Digit c) s) s := by
  rw [exec_a85Digit_of_fifth c hfour]
  exact capAborts_emitGroup hc le_rfl hv h

/-- The final group (R293). -/
theorem capAborts_a85Term (hlo : 2 ≤ s.eng.ngrp) (hhi : s.eng.ngrp ≤ 4)
    (hv : (s.eng.acc + 1) * 85 ^ (5 - s.eng.ngrp) - 1 < 2 ^ 32) (h : cap < s.eng.out.length + (s.eng.ngrp - 1)) :
    capAborts cap 2 (exec .a85Term s) s := by
  show capAborts cap 2 (.next (a85End s)) s
  rw [← padGroup_eq] at hv
  rw [a85End_of_partial hlo]
  exact capAborts_emitGroup hc (by omega) hv h

theorem capAborts_rlRepeat {m : BitVec 7} {b : Byte} (hb : s.eng.src[s.eng.bytePos]? = some b)
    (h : cap < s.eng.out.length + (257 - (128 + m.toNat))) : capAborts cap 4 (exec (.rlRepeat m) s) s := by
  show capAborts cap 4 (execRlRepeat m s) s
  simp only [execRlRepeat, hb]
  exact capAborts_emit hc (by rwa [List.length_replicate])

theorem capAborts_rlLiteral {m : BitVec 7} (hsrc : s.eng.bytePos + (m.toNat + 1) ≤ s.eng.src.length)
    (h : cap < s.eng.out.length + (m.toNat + 1)) : capAborts cap 4 (exec (.rlLiteral m) s) s := by
  have hlen : ((s.eng.src.drop s.eng.bytePos).take (m.toNat + 1)).length = m.toNat + 1 := by
    rw [List.length_take, List.length_drop]
    omega
  show capAborts cap 4 (execRlLiteral m s) s
  rw [execRlLiteral, if_neg (Nat.not_lt.2 hsrc)]
  exact capAborts_emit hc (by rwa [hlen])

/-! ## The predictor -/

theorem capAborts_finishRow {pred : PredRegs} (hlen : bs.length = pixelBytes s.j.desc)
    (h : cap < s.eng.out.length + pixelBytes s.j.desc) : capAborts cap 8 (.next (finishRow bs pred s)) s :=
  capAborts_emit hc (by rwa [hlen])

/-- Every row is as long as its encoded bytes (R325, R327). -/
theorem capAborts_row (hsrc : s.eng.bytePos + pixelBytes s.j.desc ≤ s.eng.src.length)
    (h : cap < s.eng.out.length + pixelBytes s.j.desc) :
    ∀ i ∈ [Instr.pngNone, .pngSub, .pngUp, .pngAverage, .pngPaeth, .tiffRow], capAborts cap 8 (exec i s) s := by
  have hpng (tag : Nat) : capAborts cap 8 (.next (pngRowWith tag s)) s :=
    capAborts_finishRow hc (by rw [pngDecodeRow_eq, length_decodedRow, length_rowBytes hsrc]) h
  have htiff : capAborts cap 8 (exec .tiffRow s) s :=
    capAborts_finishRow hc (by rw [tiffDecodeRow_eq, length_decodedRow, length_rowBytes hsrc]) h
  simp only [List.forall_mem_cons]
  exact ⟨hpng 0, hpng 1, hpng 2, hpng 3, hpng 4, htiff, nofun⟩

/-! ## CCITT and fax -/

/-- The bitmap of the rows done at a stop (R358, R382). -/
theorem capAborts_faxRows {i : Instr} (hi : (∃ x, i = .faxModeIllegal x) ∨ ∃ x, i = .faxRunIllegal x)
    (hrows : s.eng.fax.rowsDone ≠ [])
    (hbs : bs = rowsToBitmap s.eng.fax.rowsDone s.j.desc.cColumns.toNat
      (if s.j.desc.cFlags.getLsbD 0 then s.j.desc.cRows.toNat else s.eng.fax.rowsDone.length))
    (h : cap < bs.length) : capAborts cap 6 (exec i s) s := by
  subst hbs
  rw [exec_faxIllegal hi, faxStop_of_rows hrows]
  exact capAborts_finishBitmap hc h

/-- The white bitmap at a stop of the second attempt (R357). -/
theorem capAborts_faxWhite {i : Instr} (hi : (∃ x, i = .faxModeIllegal x) ∨ ∃ x, i = .faxRunIllegal x)
    (hrows : s.eng.fax.rowsDone = []) (hattempt : s.eng.fax.attempt = 2) (hvalid : s.j.desc.cFlags.getLsbD 0 = true)
    (h : cap < s.j.desc.cRows.toNat * ((s.j.desc.cColumns.toNat + 7) / 8)) :
    capAborts cap 6 (exec i s) (setCcittWhite s) := by
  rw [exec_faxIllegal hi, faxStop_of_secondAttempt hrows hattempt, if_pos hvalid]
  exact capAborts_finishBitmap (s := setCcittWhite s) hc (by rwa [length_rowsToBitmap, Nat.mul_comm])

theorem capAborts_gray (hs : running s) (hp : s.phase = .gray) (h : cap < 8 * s.j.input.length) :
    capAborts cap 6 (step s) s := by
  have hprep : prepare s = s := prepare_of_ne (by simp [hp])
  have hcap : overCap s.cfg (grayExpand s.j.input).length = true := overCap_of_lt hc (by rwa [length_grayExpand])
  rw [step_of_event hs (e := .gray) (by simp only [hprep, want, hp]), hprep]
  simp only [handleEvent, if_pos hcap]
  exact capAborts_raiseCap hc 6

end Capacity

end Sys2Proof.Machine

open Sys2Proof Sys2Proof.Machine

/-- Settles O18: each illegal code is the exception of its cause (`aborted_raise`), and each place where output is made
checks BUF_CAP before it (`capAborts`). -/
theorem illegalCodesAbortTheJob : Obligations.IllegalCodesAbortTheJob := by
  unfold Obligations.IllegalCodesAbortTheJob
  intro s
  refine ⟨fun slot => ⟨_, rfl, aborted_raise .unsupported 15 s⟩,
    fun p => ⟨_, rfl, aborted_raise (.predBadParams p.toNat _ _ _) 8 s⟩,
    fun c => ⟨_, rfl, aborted_raise (.hexBadChar c) 1 s⟩, fun c => ⟨_, rfl, aborted_raise (.a85BadChar c) 2 s⟩,
    fun c => ⟨_, rfl, aborted_raise (.lzwInvalidCode c.toNat _) 3 s⟩,
    fun tag => ⟨_, rfl, aborted_raise (.predBadTag tag.toNat _) 8 s⟩, fun cap hc => ?_⟩
  exact ⟨fun h => ⟨fun b => capAborts_emit hc h, fun b => capAborts_lzwData hc h,
      fun c v d hv hhi => capAborts_hexDigit hc hv hhi h,
      fun d hhi hs hp hpos => capAborts_hexEnd hc ⟨hs, hp, hpos⟩ hhi h⟩,
    fun i d => capAborts_distance hc, fun final l0 l1 n0 n1 data n => capAborts_blkStored hc,
    fun c str => capAborts_lzwRef hc, fun p => capAborts_lzwKwkwk hc, capAborts_a85Z hc, fun c => capAborts_a85Digit hc,
    capAborts_a85Term hc, fun m b => capAborts_rlRepeat hc, fun m => capAborts_rlLiteral hc, capAborts_row hc,
    fun o => capAborts_lzwDecode hc, fun o => capAborts_alternative (s := setStrategy 4 s) hc,
    fun o => capAborts_alternative (s := setStrategy 5 s) hc, fun i bm => capAborts_faxRows hc,
    fun i => capAborts_faxWhite hc, capAborts_gray hc⟩

end

section
/-! The steps of the byte codecs and of LZW (70_reset_and_hazards.md R474): each moves the cursor forward within the
input, or ends the run. -/

namespace Sys2Proof.Machine

open Sys2Proof

variable {s t : State} {bs : Bytes} {f : Format} {mk : Byte → Instr}

/-! ## What an instruction leaves of its run -/

/-- The run of `s` goes on in `t`: its phase, STATE, its input and BITPOS are as before, and BYTEPOS has at most moved
forward within the input. -/
structure GoesOn (s t : State) : Prop where
  phase : t.phase = s.phase
  state : t.status.state = s.status.state
  src : t.eng.src = s.eng.src
  bitPos : t.eng.bitPos = s.eng.bitPos
  bytePos_ge : s.eng.bytePos ≤ t.eng.bytePos
  bytePos_le : s.eng.bytePos ≤ s.eng.src.length → t.eng.bytePos ≤ s.eng.src.length

/-- The outcome `x` of an instruction in the run of `s`: the stage or the job is over, or the run goes on. -/
def goesOnOrEnds (s : State) (x : Host.Outcome State Fault Refusal) : Prop :=
  ∃ t, x = .next t ∧ (t.phase = .orchestrate ∨ GoesOn s t)

theorem goesOnOrEnds_of_ends (h : t.phase = .orchestrate) : goesOnOrEnds s (.next t) := ⟨t, rfl, .inl h⟩

theorem goesOnOrEnds_of_goesOn (h : GoesOn s t) : goesOnOrEnds s (.next t) := ⟨t, rfl, .inr h⟩

theorem goesOnOrEnds_refl (s : State) : goesOnOrEnds s (.next s) :=
  goesOnOrEnds_of_goesOn ⟨rfl, rfl, rfl, rfl, le_rfl, id⟩

/-- The other codec registers are the codec's own. -/
theorem goesOnOrEnds_setEng {e : Engine} (hsrc : e.src = s.eng.src) (hbit : e.bitPos = s.eng.bitPos)
    (hbyte : e.bytePos = s.eng.bytePos) : goesOnOrEnds s (.next { s with eng := e }) :=
  goesOnOrEnds_of_goesOn ⟨rfl, rfl, hsrc, hbit, hbyte.ge, hbyte.le.trans⟩

theorem goesOnOrEnds_raise (c : Cause) (unit : Nat) (t : State) : goesOnOrEnds s (.next (raise c unit t)) :=
  goesOnOrEnds_of_ends rfl

theorem goesOnOrEnds_finishStage (unit : Nat) (o : Bytes) (t : State) :
    goesOnOrEnds s (.next (finishStage unit o t)) := goesOnOrEnds_of_ends (codecOver_finishStage unit o t).1

/-- An output is beyond BUF_CAP, or what comes next decides. -/
theorem goesOnOrEnds_emit {k : State → State} (h : goesOnOrEnds s (.next (k (appendOut bs s)))) :
    goesOnOrEnds s (.next (emit unit bs s k)) := by
  obtain ⟨-, hemit⟩ | ⟨-, hemit⟩ := emit_cases unit bs s k <;> rw [hemit]
  · exact goesOnOrEnds_raise _ unit s
  · exact h

/-! ## The ends of the runs -/

theorem phase_hexEnd (s : State) : (hexEnd s).phase = .orchestrate := by
  unfold hexEnd
  split
  · exact (codecOver_finishStage 1 _ s).1
  · obtain ⟨-, h⟩ | ⟨-, h⟩ := emit_cases 1 _ s _ <;> rw [h]
    · rfl
    · exact (codecOver_finishStage 1 _ _).1

theorem phase_a85End (s : State) : (a85End s).phase = .orchestrate := by
  unfold a85End
  split
  · exact (codecOver_finishStage 2 _ s).1
  split
  · rfl
  · obtain ⟨-, h⟩ | ⟨-, -, h⟩ | ⟨-, -, h⟩ := emitGroup_cases (s.eng.ngrp - 1) _ s _ <;> rw [h]
    · rfl
    · rfl
    · exact (codecOver_finishStage 2 _ _).1

/-! ## The instructions -/

theorem exec_hexDigit_goesOn (c : Byte) (s : State) : goesOnOrEnds s (exec (.hexDigit c) s) := by
  show goesOnOrEnds s (execHexDigit c s)
  unfold execHexDigit
  split
  · exact goesOnOrEnds_raise _ 1 s
  · exact goesOnOrEnds_setEng rfl rfl rfl
  · exact goesOnOrEnds_emit (goesOnOrEnds_setEng rfl rfl rfl)

theorem exec_decodeHex_goesOn (ws : Bytes) (last : Bool) (c : Byte) (s : State) :
    goesOnOrEnds s (exec (decodeHex ws last c) s) := by
  unfold decodeHex
  split
  · exact goesOnOrEnds_refl s
  split
  · exact exec_hexDigit_goesOn c s
  split
  · exact goesOnOrEnds_refl s
  · exact goesOnOrEnds_raise _ 1 s

theorem exec_a85Digit_goesOn (c : Byte) (s : State) : goesOnOrEnds s (exec (.a85Digit c) s) := by
  show goesOnOrEnds s (execA85Digit c s)
  unfold execA85Digit emitGroup
  split
  · split
    · exact goesOnOrEnds_raise _ 2 s
    · exact goesOnOrEnds_emit (goesOnOrEnds_setEng rfl rfl rfl)
  · exact goesOnOrEnds_setEng rfl rfl rfl

theorem exec_a85Z_goesOn (s : State) : goesOnOrEnds s (exec .a85Z s) := by
  show goesOnOrEnds s (execA85Z s)
  unfold execA85Z
  split
  · exact goesOnOrEnds_raise _ 2 s
  · exact goesOnOrEnds_emit (goesOnOrEnds_setEng rfl rfl rfl)

theorem exec_decodeA85_goesOn (ws : Bytes) (c : Byte) (s : State) :
    goesOnOrEnds s (exec (decodeA85 ws c) s) := by
  unfold decodeA85
  split
  · exact goesOnOrEnds_refl s
  split
  · exact goesOnOrEnds_of_ends (phase_a85End s)
  split
  · exact exec_a85Z_goesOn s
  split
  · exact exec_a85Digit_goesOn c s
  · exact goesOnOrEnds_raise _ 2 s

/-- The bytes of a literal run are there, or the job ends (R298). -/
theorem exec_rlLiteral_goesOn (n : BitVec 7) (s : State) : goesOnOrEnds s (exec (.rlLiteral n) s) := by
  show goesOnOrEnds s (execRlLiteral n s)
  unfold execRlLiteral
  split
  case isTrue => exact goesOnOrEnds_raise _ 4 s
  case isFalse h =>
    exact goesOnOrEnds_emit
      (goesOnOrEnds_of_goesOn ⟨rfl, rfl, rfl, rfl, Nat.le_add_right _ _, fun _ => Nat.le_of_not_lt h⟩)

/-- The byte of a repeat run is there, or the job ends (R300). -/
theorem exec_rlRepeat_goesOn (n : BitVec 7) (s : State) : goesOnOrEnds s (exec (.rlRepeat n) s) := by
  show goesOnOrEnds s (execRlRepeat n s)
  unfold execRlRepeat
  split
  · exact goesOnOrEnds_raise _ 4 s
  next b hb =>
    have hlt : s.eng.bytePos < s.eng.src.length := (List.getElem?_eq_some_iff.1 hb).1
    exact goesOnOrEnds_emit (goesOnOrEnds_of_goesOn ⟨rfl, rfl, rfl, rfl, Nat.le_succ _, fun _ => hlt⟩)

theorem exec_decodeRl_goesOn (c : Byte) (s : State) : goesOnOrEnds s (exec (decodeRl c) s) := by
  unfold decodeRl
  split
  · exact exec_rlLiteral_goesOn _ s
  split
  · exact goesOnOrEnds_finishStage 4 _ s
  · exact exec_rlRepeat_goesOn _ s

theorem lzwData_goesOn (str : Bytes) (s : State) : goesOnOrEnds s (.next (lzwData str s)) :=
  goesOnOrEnds_emit (goesOnOrEnds_setEng rfl rfl rfl)

theorem exec_lzwRef_goesOn (c : BitVec 16) (s : State) : goesOnOrEnds s (exec (.lzwRef c) s) := by
  cases h : lzwString s.eng.lzw c.toNat with
  | none => exact exec_lzwRef_of_none h ▸ goesOnOrEnds_raise _ 3 s
  | some str => exact exec_lzwRef_of_string h ▸ lzwData_goesOn str s

theorem exec_lzwKwkwk_goesOn (s : State) : goesOnOrEnds s (exec .lzwKwkwk s) := by
  obtain ⟨p, hp, hlt⟩ | h := room_or_fixed s.eng.lzw
  · exact exec_lzwKwkwk_of_prev hp hlt ▸ lzwData_goesOn _ s
  · exact exec_lzwKwkwk_of_fault h ▸ goesOnOrEnds_raise _ 3 s

theorem exec_decodeLzw_goesOn (next : Nat) (prev : Bool) (c : Nat) (s : State) :
    goesOnOrEnds s (exec (decodeLzw next prev c) s) := by
  unfold decodeLzw
  split
  · exact lzwData_goesOn _ s
  split
  · exact goesOnOrEnds_setEng rfl rfl rfl
  split
  · exact goesOnOrEnds_finishStage 3 _ s
  split
  · exact exec_lzwRef_goesOn _ s
  split
  · exact exec_lzwKwkwk_goesOn s
  · exact goesOnOrEnds_raise _ 3 s

/-! ## A step of a byte codec -/

/-- The format `f` is one byte, whose instruction `mk` gives. -/
structure ByteFormat (f : Format) (mk : Byte → Instr) : Prop where
  decode_eq : ∀ bs, decode f bs = decodeByte bs mk
  advance_eq : ∀ s, advance f 8 s = { s with eng := { s.eng with bytePos := s.eng.bytePos + 1 } }

/-- With a byte left, a byte codec reads it and moves past it. -/
theorem step_of_byte (hf : ByteFormat f mk) (hs : running s) (hp : s.phase ≠ .lzw)
    (hw : want s = .code f (restBytes s)) (hpos : s.eng.bytePos < s.eng.src.length) :
    ∃ c, step s = exec (mk c) { s with eng := { s.eng with bytePos := s.eng.bytePos + 1 } } := by
  have hprep : prepare s = s := prepare_of_ne hp
  have hbits : restBytes s =
      bitsM 8 (s.eng.src[s.eng.bytePos]).toNat ++ streamM (s.eng.src.drop (s.eng.bytePos + 1)) := by
    rw [restBytes, List.drop_eq_getElem_cons hpos]
    rfl
  have hd : decode f (restBytes s) = .instr (mk s.eng.src[s.eng.bytePos]) 8 := by
    rw [hf.decode_eq, hbits, decodeByte_bitsM]
  exact ⟨_, by rw [step_of_decode hs ((congrArg want hprep).trans hw) hd, hprep, hf.advance_eq]⟩

/-- A step of a byte codec moves BYTEPOS forward within the input, or ends the run. -/
theorem step_consumes_byte (hf : ByteFormat f mk) (hs : running s) (hp : s.phase ≠ .lzw)
    (hw : want s = .code f (restBytes s)) (hexec : ∀ c t, goesOnOrEnds t (exec (mk c) t))
    (hend : (handleReject .endOfInput s).phase = .orchestrate) (h : step s = .next t) :
    t.phase = .orchestrate ∨ (t.phase = s.phase ∧ t.status.state = .busy ∧ t.eng.src = s.eng.src ∧
      s.eng.bytePos < t.eng.bytePos ∧ t.eng.bytePos ≤ s.eng.src.length) := by
  by_cases hpos : s.eng.bytePos < s.eng.src.length
  · obtain ⟨c, hstep⟩ := step_of_byte hf hs hp hw hpos
    obtain ⟨t', ht', hover | hon⟩ := hexec c { s with eng := { s.eng with bytePos := s.eng.bytePos + 1 } } <;>
      cases h.symm.trans (hstep.trans ht')
    · exact .inl hover
    · exact .inr ⟨hon.phase, hon.state.trans hs.2, hon.src, hon.bytePos_ge, hon.bytePos_le hpos⟩
  · have hused : bytesUsedUp s.phase s := ⟨hs, rfl, Nat.le_of_not_lt hpos⟩
    cases h.symm.trans (step_of_bytesUsedUp hused hp hw (hf.decode_eq []))
    exact .inl hend

/-! ## A step of LZW -/

theorem length_streamM (b : Bytes) : (streamM b).length = 8 * b.length := by
  simp [streamM, bitsM, List.length_flatMap, Nat.mul_comm]

/-- The next code is at least as wide as the last one (R255). -/
theorem codeBits_le_nextWidth (s : State) : s.eng.lzw.codeBits ≤ nextWidth s := by
  rw [nextWidth, codeBits_widenCode]
  split <;> omega

/-- A step of LZW moves BITPOS past a code within the input, or ends the run (R259, R261). -/
theorem step_consumes_code (hs : running s) (hp : s.phase = .lzw) (hbits : 9 ≤ s.eng.lzw.codeBits)
    (h : step s = .next t) :
    t.phase = .orchestrate ∨ (t.phase = .lzw ∧ t.status.state = .busy ∧ t.eng.src = s.eng.src ∧
      s.eng.bitPos + 9 ≤ t.eng.bitPos ∧ t.eng.bitPos ≤ 8 * s.eng.src.length) := by
  have hwidth : 9 ≤ nextWidth s := hbits.trans (codeBits_le_nextWidth s)
  by_cases hshort : (restM s).length < nextWidth s
  · cases h.symm.trans (step_of_lzwShort hs hp hshort)
    exact .inl (codecOver_finishStage 3 _ _).1
  rw [step_of_running hs] at h
  obtain ⟨c, hstep⟩ | hstep := blockStep_of_lzw hp
  · obtain ⟨t', ht', hover | hon⟩ :=
      exec_decodeLzw_goesOn s.eng.lzw.nextCode s.eng.lzw.prev.isSome c (afterCode s) <;>
      cases h.symm.trans (hstep.trans ht')
    · exact .inl hover
    · have hpos : t.eng.bitPos = s.eng.bitPos + nextWidth s := hon.bitPos
      rw [restM, List.length_drop, length_streamM] at hshort
      exact .inr ⟨hon.phase.trans hp, hon.state.trans hs.2, hon.src, by omega, by omega⟩
  · cases h.symm.trans hstep
    exact .inl (codecOver_finishStage 3 _ _).1

end Sys2Proof.Machine

open Sys2Proof Sys2Proof.Machine

/-- Settles O52: the codecs read one byte each (`step_consumes_byte`), LZW a code (`step_consumes_code`). -/
theorem codecStepsConsumeInput : Obligations.CodecStepsConsumeInput := by
  unfold Obligations.CodecStepsConsumeInput
  refine fun s t hs h => ⟨?_, fun hp hbits => step_consumes_code hs hp hbits h⟩
  rintro (hp | hp | hp)
  · exact step_consumes_byte (f := .hexChar s.cfg.ws (lastSignificant s)) ⟨fun _ => rfl, fun _ => rfl⟩ hs
      (by simp [hp]) (by rw [want, hp]) (exec_decodeHex_goesOn _ _) (by rw [handleReject, hp]; exact phase_hexEnd s) h
  · exact step_consumes_byte (f := .a85Char s.cfg.ws) ⟨fun _ => rfl, fun _ => rfl⟩ hs (by simp [hp])
      (by rw [want, hp]) (exec_decodeA85_goesOn _) (by rw [handleReject, hp]; exact phase_a85End s) h
  · exact step_consumes_byte (f := .rlByte) ⟨fun _ => rfl, fun _ => rfl⟩ hs (by simp [hp]) (by rw [want, hp])
      exec_decodeRl_goesOn (by rw [handleReject, hp]; exact (codecOver_finishStage 4 _ s).1) h

end

section
/-! The steps of a running job, and the accesses to CTRL that it ignores (70_reset_and_hazards.md R468, R471). -/

namespace Sys2Proof.Machine

open Sys2Proof

variable {s : State} {v : Word} {ms : List Move} {w : Nat}

theorem decode_cmd (v : Word) : decode .cmd (bitsL 64 v.toNat) = decodeCmd v.toNat := by
  have hfield := fieldL_toNat v []
  rw [List.append_nil] at hfield
  simp only [decode, hfield]

/-- A write of CTRL is an access inside the map. -/
theorem step_ctrlWrite (h : s.moves = .regWrite 0 v :: ms) : step s = busCtrl { s with moves := ms } v := by
  simp [step_of_moves h, hostMove, outsideMap_of_le]

/-- Neither START nor ACK does anything while BUSY, nor ACK while IDLE (R468). -/
theorem decodeCmd_ignored (h : s.status.state = .busy ∨ (s.status.state = .idle ∧ w.testBit 0 = false)) :
    Decoded.Holds (exec · s = .next s) (decodeCmd w) := by
  unfold decodeCmd
  split
  case isTrue hstart =>
    have hbusy : s.status.state = .busy := h.resolve_right (by simp [hstart])
    split <;> exact congrArg Host.Outcome.next (if_pos hbusy)
  case isFalse =>
    have hover : ¬ (s.status.state = .done ∨ s.status.state = .error) := by
      obtain hst | ⟨hst, -⟩ := h <;> simp [hst]
    split
    · exact congrArg Host.Outcome.next (if_neg hover)
    · trivial

theorem busCtrl_ignored (h : s.status.state = .busy ∨ (s.status.state = .idle ∧ v.toNat.testBit 0 = false)) :
    busCtrl s v = .next s := by
  have hexec := decodeCmd_ignored h
  rw [busCtrl, decode_cmd]
  split
  next hd => rwa [hd] at hexec
  · rfl

end Sys2Proof.Machine

open Sys2Proof Sys2Proof.Machine

/-- Settles O2: a step of the block answers what its unit does (`blockStep_runs`). -/
theorem everyBlockStepCompletes : Obligations.EveryBlockStepCompletes := by
  unfold Obligations.EveryBlockStepCompletes
  intro s hs
  obtain ⟨r, -, hr⟩ := blockStep_runs s
  exact ⟨r s, (step_of_running hs).trans (hr s)⟩

/-- Settles O6: no command that such a write decodes to changes the state (`decodeCmd_ignored`). -/
theorem startAndAckIgnored : Obligations.StartAndAckIgnored := by
  unfold Obligations.StartAndAckIgnored
  intro s v ms hm h
  rw [step_ctrlWrite hm]
  exact busCtrl_ignored (s := { s with moves := ms }) h

end
